-- ==== Sys2Proof/Word.lean ====
section
/-! DEFINITION. The words of the part: bytes, section sets, bay numbers and pack IDs, with their plainest operations. -/

namespace Sys2Proof

/-- One byte of a frame or of the serial memory. -/
abbrev Byte := BitVec 8

/-- A bus address as frames carry it (00, Units: 1 to 62 stations, 63 broadcast). -/
abbrev Addr := BitVec 8

/-- A set of sections 0 to 7: bit s set for section s (10.1). -/
abbrev Sections := BitVec 8

/-- A bay number of a node with four bays (00). -/
abbrev BayIdx := Fin 4

/-- A pack ID: its characters in order, one byte each (R51). -/
abbrev PackId := List Byte

/-- The section set that holds one section. -/
def sectionBit (n : Nat) : Sections := 1#8 <<< n

/-- Broadcast address of the line (00, Units). -/
def broadcast : Addr := 63#8

end Sys2Proof
end

