-- ==== Sys2Proof/Syntax.lean ====
section
/-! DEFINITION. The commands the block takes, one constructor for each row of spec/opcode_table.json, and the operands they carry. -/

namespace Sys2Proof

/-- Bay states (02, 2.1), in the order of their STATUS coding (10.1). -/
inductive BayState where
  | empty | loaded | admitted | connecting | discharging | resting | held | safe | offering
  | releasing | quarantine
  deriving DecidableEq, Repr

/-- Zone states (05, 5.1), in the order of their STATUS coding (10.1). -/
inductive ZoneState where
  | air | purging | inert | ready | running | alarm | fire | lockout
  deriving DecidableEq, Repr

/-- The modes a STATUS can report (10.1). -/
inductive ReportedMode where
  | operating | maintenance | configFault
  deriving DecidableEq, Repr

/-- The status period P: 50, 100 or 200 ms (00, Time). -/
inductive Period where
  | p50 | p100 | p200
  deriving DecidableEq, Repr

/-- Cause classes (07, 7.1), in the order of the raised-classes bits of a STATUS. -/
inductive CauseClass where
  | fire | atmosphere | thermal | electrical | line | account
  deriving DecidableEq, Repr

/-- The class of a TRIP frame (10.1). -/
inductive TripClass where
  | fire | thermal
  deriving DecidableEq, Repr

/-- The reasons of a DECLINE (04, 4.1). -/
inductive DeclineReason where
  | state | blocked | full | duplicate | residual | degraded
  deriving DecidableEq, Repr

/-- The 66 rows of the cause table (07, 7.1), a row with a bay or a watched position as its subject carrying it. -/
inductive Row where
  | fd1 | fd2 | fd3 | fd4 | fd5 | fp1 | fp2
  | at1 | at2 | at3 | at4 | at5
  | th1 (b : BayIdx) | th2 (b : BayIdx) | th3
  | el1 (b : BayIdx) | el2 (b : BayIdx) | el3 (b : BayIdx) | el4 (b : BayIdx)
  | ln1 (p : Fin 12) | ln2
  | ac1 (b : BayIdx) | ac2 (b : BayIdx) | ac3 | ac4 | ac5 | ac6 (b : BayIdx) | ac7
  deriving DecidableEq, Repr

/-- The filtered discrete inputs of the part (R6). SP is counted, not filtered. -/
inductive DiscreteInput where
  | pp (b : BayIdx) | kf (b : BayIdx)
  | d (n : Fin 4) | dc | ar | fc
  | g (n : Fin 8)
  deriving DecidableEq, Repr

/-- One sample with its valid mark (00, Field lines). -/
structure Reading where
  value : Int
  valid : Bool
  deriving DecidableEq, Repr

/-! ### The configuration image as it is read (11.2)

Field values stand as read, before any range check; R198 and R199 judge them. -/

/-- The kinds of literals (R156, R157). -/
inductive LiteralKind where
  | general | dwell | zoneReady | zoneRunning | bayDischarging | baySafe
  | peerFresh | peerZoneReady | peerZoneRunning | peerAccepting | peerTripFree | peerLockout
  deriving DecidableEq, Repr

/-- A literal as read: `none` for a kind that is not one of 11.2, an index where one is carried, and a polarity. -/
structure Literal where
  kind : Option LiteralKind
  index : Option Nat
  positive : Bool
  deriving DecidableEq, Repr

/-- The eleven permits (08, 8.1). -/
inductive Permit where
  | connect (b : BayIdx) | release (b : BayIdx) | purge | feed | run
  deriving DecidableEq, Repr

/-- One site term: the permit it belongs to (`none`: a name outside the eleven) and its literals (R155). -/
structure SiteTerm where
  permit : Option Permit
  literals : List Literal
  deriving DecidableEq, Repr

/-- One dwell timer definition (R159). -/
structure TimerDef where
  number : Nat
  input : Literal
  preset : Nat
  deriving DecidableEq, Repr

/-- Section and destination of one bay (11.2). -/
structure BayConfig where
  section_ : Nat
  dest : Nat
  deriving DecidableEq, Repr

/-- The figures of one chemistry class (R12). -/
structure ClassConfig where
  vendCell : Nat
  vrelCell : Nat
  iend : Nat
  deriving DecidableEq, Repr

/-- The zone fields, read only when zone present is 1 (11.2). -/
structure ZoneConfig where
  section_ : Nat
  o2inert : Nat
  o2top : Nat
  o2warn : Nat
  tol : Nat
  purgeLimit : Nat
  settle : Nat
  flood : Nat
  feedLimit : Nat
  acceptLimit : Nat
  acceptUndeclared : Bool
  acceptDegraded : Bool
  lockoutOnFire : Bool
  deriving DecidableEq, Repr

/-- The fields of the image after line ID and status period code (11.2). -/
structure ImageBody where
  terminals : List Nat
  watched : List Nat
  transitLimit : Nat
  samplePeriod : Nat
  ke : Nat
  kt : Nat
  kg : Nat
  kh : Nat
  kd : Nat
  bayCount : Nat
  bays : List BayConfig
  classes : Vector ClassConfig 4
  imax : Nat
  irev : Nat
  tover : Int
  rlim : Nat
  restInterval : Nat
  maxRebounds : Nat
  pmin : Nat
  releaseLimit : Nat
  offerBackoff : Nat
  zonePresent : Nat
  zone : Option ZoneConfig
  window : Nat
  tconf : Nat
  hfire : Int
  swarn : Nat
  sfire : Nat
  ranking : Vector CauseClass 5
  timers : List TimerDef
  siteTerms : List SiteTerm
  deriving DecidableEq, Repr

/-- What the bytes of an image decode to under the coding of format 1, which the manual leaves to the tooling (11.2):
the line ID and the period code where the bytes reach them, and the rest where the bytes hold all of it. -/
structure ImageFields where
  lineId : Option Nat
  periodCode : Option Nat
  body : Option ImageBody
  deriving DecidableEq, Repr

/-! ### Frames (10.1) -/

/-- The header bytes of a frame that its receiver judges (R183). -/
structure Header where
  line : Byte
  sender : Addr
  dest : Addr
  seq : Byte
  deriving DecidableEq, Repr

/-- The items of a STATUS (R176, 10.1). -/
structure StatusPayload where
  mode : ReportedMode
  period : Period
  bays : Vector BayState 4
  zonePresent : Bool
  zoneState : ZoneState
  zoneAge : BitVec 16
  freeSlots : Fin 5
  accepting : Bool
  classes : BitVec 6
  fireSections : Sections
  thermalSections : Sections
  leading : Fin 67
  lockout : Bool
  fault : Fin 12
  deriving DecidableEq, Repr

/-- The items of an OFFER (10.1). Edecl and the Residual are present by their flags. -/
structure OfferPayload where
  id : PackId
  cls : Byte
  cells : Byte
  edecl : Option (BitVec 24)
  qdis : BitVec 32
  edis : BitVec 32
  residual : Option (BitVec 24)
  degraded : Bool
  restPassed : Bool
  originBay : Byte
  dest : Addr
  deriving DecidableEq, Repr

/-- The commands of the block, one for each row of spec/opcode_table.json.
A row that the manual ties to a subject carries it; a received frame carries its header. -/
inductive Instr where
  | coldReset (pins : BitVec 6)
  | loadEnd (memory : List Byte) (fields : ImageFields)
  | pairArrival (b : BayIdx) (v : BitVec 16) (vValid : Bool) (i : BitVec 16) (iValid : Bool)
  | tbArrival (b : BayIdx) (tb : Reading)
  | zoneArrival (o2a o2b h1 h2 : Reading)
  | discreteArrival (levels : List (DiscreteInput × Bool))
  | spArrival (pulses : BitVec 8)
  | secondBoundary
  | closingWindowExpiry (b : BayIdx)
  | openingWindowExpiry (b : BayIdx)
  | restTimerExpiry (b : BayIdx)
  | offerBackoffExpiry (b : BayIdx)
  | rgPulseEnd (b : BayIdx)
  | fpPulseEnd
  | offerQueueExpiry (b : BayIdx)
  | answerWindowExpiry (b : BayIdx)
  | transitDeadlineExpiry (id : PackId)
  | reservationExpiry (id : PackId)
  | feedDeadlineExpiry
  | purgeTimerExpiry
  | settleTimerExpiry
  | floodTimerExpiry
  | persistenceTimerExpiry (n : Fin 4)
  | reformationTimerExpiry
  | dwellTimerStep (d : Fin 16)
  | inhibitExpiry (r : Row)
  | stalenessDeadlineExpiry (p : Fin 12)
  | startWindowExpiry
  | statusDue
  | transmitBlockedWatch
  | transmitAttempt
  | collision
  | backoffExpiry
  | frameLeaves
  | frameDiscarded (raw : List Byte)
  | status (h : Header) (p : StatusPayload)
  | trip (h : Header) (cls : TripClass) (sections : Sections)
  | offer (h : Header) (o : OfferPayload)
  | accept (h : Header) (id : PackId)
  | decline (h : Header) (id : PackId) (reason : DeclineReason)
  | withdraw (h : Header) (id : PackId)
  | landed (h : Header) (id : PackId)
  | replyReceived (h : Header) (payload : List Byte)
  | requestMalformed (h : Header) (kind : Byte)
  | admitPack (h : Header) (bay : Byte) (id : PackId) (cls cells : Byte) (edecl : Option (BitVec 24))
  | start (h : Header) (bay : Byte)
  | reject (h : Header) (bay : Byte)
  | clearBay (h : Header) (bay : Byte)
  | clearChute (h : Header)
  | resolveLost (h : Header) (id : PackId)
  | zoneStart (h : Header)
  | zoneStop (h : Header)
  | run (h : Header)
  | halt (h : Header)
  | ack (h : Header) (scope : Byte)
  | reset (h : Header)
  | maintOn (h : Header)
  | maintOff (h : Header)
  | inhibit (h : Header) (row : Byte) (seconds : BitVec 16)
  | queryPackId (h : Header) (id : PackId)
  | queryPackBay (h : Header) (bay : Byte)
  | queryPackPosition (h : Header) (position : Byte)
  | queryCauses (h : Header) (position : Byte)
  | queryLog (h : Header) (entry : BitVec 16)
  | queryCounts (h : Header)
  | restart (h : Header)
  | warmResetEnd
  deriving DecidableEq, Repr

end Sys2Proof
end

