-- ==== Sys2Proof/Config.lean ====
section
/-! DEFINITION. What the part fixes (its sizes and intervals) and the free values of the model, which have no body. -/

namespace Sys2Proof.Config

/-! ### Free values

Nothing can evaluate these, so whatever is proved holds for every value of them. -/

/-- The draw of a collision backoff: one less than its number of slot times, which the manual leaves open within 1 to 8 (R187;
log 8). -/
opaque backoffDraw : Nat → Fin 8

/-- Which of two reactions that fall together inside one command is taken first, where the manual allows either (R33; log 7). -/
opaque firstTaken : Nat → Bool

/-- Whether a remaining time that is no whole number of its reporting unit is reported as the next unit up, by the time and the unit
(R24, R66, R146; log 9). -/
opaque roundsUp : Nat → Nat → Bool

/-! ### Sizes -/

/-- Records of the pack table (R50). -/
def tableSize : Nat := 24
/-- Slots of the infeed queue (R106). -/
def queueSize : Nat := 4
/-- Frames of the handover FIFO (10.3). -/
def handoverSize : Nat := 8
/-- Frames of the REPLY FIFO (10.3). -/
def replySize : Nat := 4
/-- Entries of the trip log (R143). -/
def logSize : Nat := 16
/-- Rows inhibited at once (R139). -/
def inhibitSize : Nat := 4
/-- Originators of a remote row (R133). -/
def originatorSize : Nat := 4
/-- The most a 48-bit energy total holds (R62). -/
def totalMax : Nat := 281474976710655

/-! ### Intervals, in half milliseconds -/

/-- One millisecond. -/
def ms : Nat := 2
/-- One count of node time, 10 ms (00, Units). -/
def count : Nat := 20
/-- One second. -/
def second : Nat := 2000
/-- One slot time of the line bus, 0.5 ms (R185). -/
def slotTime : Nat := 1
/-- The contactor windows, 200 ms (R30, R31). -/
def contactorWindow : Nat := 400
/-- The RG and FP pulses, 500 ms (R25, R91). -/
def pulse : Nat := 1000
/-- The warm reset, 50 ms (R193). -/
def warmReset : Nat := 100

/-- P in half milliseconds (00, Time). -/
def period : Period → Nat
  | .p50 => 100
  | .p100 => 200
  | .p200 => 400

end Sys2Proof.Config
end

