-- ==== Sys2Proof/WellFormed.lean ====
section
/-! DEFINITION. Which commands carry operands inside the ranges the manual gives them. The meanings are total all the same: this says
what the field lines and an honest sender can send. -/

namespace Sys2Proof

/-- A temperature inside the range of its channel, in 0.1 °C (00, Units). -/
def temperatureInRange (t : Reading) : Bool := decide (-400 ≤ t.value ∧ t.value ≤ 2000)

/-- An oxygen figure inside the range of its channel, in 0.01 % vol (00, Units). -/
def oxygenInRange (o : Reading) : Bool := decide (0 ≤ o.value ∧ o.value ≤ 2500)

/-- A pack ID of 1 to 12 characters with codes 32 to 126 (R51). -/
def packIdWellFormed (id : PackId) : Bool :=
  decide (1 ≤ id.length ∧ id.length ≤ 12) && id.all fun c => decide (32 ≤ c.toNat ∧ c.toNat ≤ 126)

/-- A header whose line ID, sender and destination lie inside their ranges (10.1). -/
def headerWellFormed (h : Header) : Bool :=
  decide (1 ≤ h.line.toNat) && decide (1 ≤ h.sender.toNat ∧ h.sender.toNat ≤ 62) &&
    decide (1 ≤ h.dest.toNat ∧ h.dest.toNat ≤ 63)

/-- An OFFER whose items lie inside their coding (10.1). -/
def offerWellFormed (o : OfferPayload) : Bool :=
  packIdWellFormed o.id && decide (o.cls.toNat ≤ 3) && decide (1 ≤ o.cells.toNat ∧ o.cells.toNat ≤ 250) &&
    decide (o.originBay.toNat ≤ 3) && decide (1 ≤ o.dest.toNat ∧ o.dest.toNat ≤ 62) &&
    o.edecl.all (fun e => decide (e.toNat ≤ 1000000)) && o.residual.all (fun r => decide (r.toNat ≤ 1000000)) &&
    decide (-1000000 ≤ o.edis.toInt ∧ o.edis.toInt ≤ 1000000)

/-- The operands of a command lie inside the ranges of the manual; one arrival names a discrete input at most once (R6). -/
def Instr.wellFormed : Instr → Bool
  | .tbArrival _ t => temperatureInRange t
  | .zoneArrival a b h1 h2 => oxygenInRange a && oxygenInRange b && temperatureInRange h1 && temperatureInRange h2
  | .discreteArrival levels => decide (levels.map Prod.fst).Nodup
  | .offer h o => headerWellFormed h && offerWellFormed o
  | .accept h id | .withdraw h id | .landed h id | .decline h id _ => headerWellFormed h && packIdWellFormed id
  | .transitDeadlineExpiry id | .reservationExpiry id => packIdWellFormed id
  | .status h _ | .trip h _ _ | .requestMalformed h _ => headerWellFormed h
  | .replyReceived h p => headerWellFormed h && decide (p.length ≤ 48)
  | .admitPack h bay id cls cells edecl =>
    headerWellFormed h && decide (bay.toNat ≤ 3) && packIdWellFormed id && decide (cls.toNat ≤ 3) &&
      decide (1 ≤ cells.toNat ∧ cells.toNat ≤ 250) && edecl.all (fun e => decide (e.toNat ≤ 1000000))
  | .start h bay | .reject h bay | .clearBay h bay | .queryPackBay h bay => headerWellFormed h && decide (bay.toNat ≤ 3)
  | .resolveLost h id | .queryPackId h id => headerWellFormed h && packIdWellFormed id
  | .ack h scope => headerWellFormed h && decide (scope.toNat ≤ 6)
  | .inhibit h row seconds =>
    headerWellFormed h && decide (1 ≤ row.toNat ∧ row.toNat ≤ 66) && decide (1 ≤ seconds.toNat ∧ seconds.toNat ≤ 1800)
  | .queryPackPosition h p => headerWellFormed h && decide (1 ≤ p.toNat ∧ p.toNat ≤ 24)
  | .queryCauses h p => headerWellFormed h && decide (1 ≤ p.toNat ∧ p.toNat ≤ 66)
  | .clearChute h | .zoneStart h | .zoneStop h | .run h | .halt h | .reset h | .maintOn h | .maintOff h | .queryLog h _
  | .queryCounts h | .restart h => headerWellFormed h
  | .coldReset _ | .loadEnd _ _ | .pairArrival _ _ _ _ _ | .spArrival _ | .secondBoundary | .closingWindowExpiry _
  | .openingWindowExpiry _ | .restTimerExpiry _ | .offerBackoffExpiry _ | .rgPulseEnd _ | .fpPulseEnd | .offerQueueExpiry _
  | .answerWindowExpiry _ | .feedDeadlineExpiry | .purgeTimerExpiry | .settleTimerExpiry | .floodTimerExpiry
  | .persistenceTimerExpiry _ | .reformationTimerExpiry | .dwellTimerStep _ | .inhibitExpiry _ | .stalenessDeadlineExpiry _
  | .startWindowExpiry | .statusDue | .transmitBlockedWatch | .transmitAttempt | .collision | .backoffExpiry | .frameLeaves
  | .frameDiscarded _ | .warmResetEnd => true

end Sys2Proof
end

