-- ==== Sys2Proof/Decode.lean ====
section
/-! DEFINITION. The byte layouts of the line bus (10.1) both ways: frames received, from their bytes to the command they are, and
frames as their bytes; the check value (R182); and the table's own words, of which no row gives any. -/

namespace Sys2Proof

/-! ### The check value -/

/-- One shift of the CRC-16 register with generator x^16 + x^12 + x^5 + 1 (R182). -/
def crcShift (r : BitVec 16) : BitVec 16 := if r.msb then (r <<< 1) ^^^ 0x1021#16 else r <<< 1

/-- One byte taken into the register, most significant bit first (R182). -/
def crcByte (r : BitVec 16) (b : Byte) : BitVec 16 :=
  crcShift (crcShift (crcShift (crcShift (crcShift (crcShift (crcShift (crcShift (r ^^^ (b ++ 0#8)))))))))

/-- The CRC-16 of a byte sequence: register preset to all ones, result not inverted (R182). -/
def crc16 (bytes : List Byte) : BitVec 16 := bytes.foldl crcByte 0xFFFF#16

/-! ### Fields of a payload -/

/-- The byte at an offset of a payload. -/
def byteAt (p : List Byte) (i : Nat) : Byte := p.getD i 0#8

/-- A two-byte field, high byte first. -/
def word16At (p : List Byte) (i : Nat) : BitVec 16 := byteAt p i ++ byteAt p (i + 1)

/-- A three-byte field, high byte first. -/
def word24At (p : List Byte) (i : Nat) : BitVec 24 := byteAt p i ++ word16At p (i + 1)

/-- A four-byte field, high byte first. -/
def word32At (p : List Byte) (i : Nat) : BitVec 32 := byteAt p i ++ word24At p (i + 1)

/-- The bytes of a two-byte field. -/
def bytes16 (w : BitVec 16) : List Byte := [w.extractLsb' 8 8, w.extractLsb' 0 8]

/-- The bytes of a three-byte field. -/
def bytes24 (w : BitVec 24) : List Byte := w.extractLsb' 16 8 :: bytes16 (w.extractLsb' 0 16)

/-- The bytes of a four-byte field. -/
def bytes32 (w : BitVec 32) : List Byte := w.extractLsb' 24 8 :: bytes24 (w.extractLsb' 0 24)

/-- The pack ID at an offset: a length byte and twelve character bytes. A length above 12 gives an ID of that length, which no check of
an ID passes. -/
def packIdAt (p : List Byte) (i : Nat) : PackId :=
  let n := (byteAt p i).toNat
  ((p.drop (i + 1)).take 12 ++ List.replicate (n - 12) 0#8).take n

/-- The thirteen bytes of a pack ID (10.1). -/
def packIdBytes (id : PackId) : List Byte := BitVec.ofNat 8 id.length :: (id ++ List.replicate (12 - id.length) 0#8)

/-! ### Codes of 10.1 -/

/-- Coding of a bay summary. -/
def bayStateCode : BayState → Nat
  | .empty => 0 | .loaded => 1 | .admitted => 2 | .connecting => 3 | .discharging => 4 | .resting => 5
  | .held => 6 | .safe => 7 | .offering => 8 | .releasing => 9 | .quarantine => 10

/-- The bay state of a coding. -/
def bayStateOf : Nat → Option BayState
  | 0 => some .empty | 1 => some .loaded | 2 => some .admitted | 3 => some .connecting | 4 => some .discharging
  | 5 => some .resting | 6 => some .held | 7 => some .safe | 8 => some .offering | 9 => some .releasing
  | 10 => some .quarantine | _ => none

/-- Coding of a zone state. -/
def zoneStateCode : ZoneState → Nat
  | .air => 0 | .purging => 1 | .inert => 2 | .ready => 3 | .running => 4 | .alarm => 5 | .fire => 6 | .lockout => 7

/-- The zone state of a coding. -/
def zoneStateOf : Nat → Option ZoneState
  | 0 => some .air | 1 => some .purging | 2 => some .inert | 3 => some .ready | 4 => some .running | 5 => some .alarm
  | 6 => some .fire | 7 => some .lockout | _ => none

/-- Coding of a reported mode. -/
def modeCode : ReportedMode → Nat
  | .operating => 1 | .maintenance => 2 | .configFault => 3

/-- The mode of a coding. -/
def modeOf : Nat → Option ReportedMode
  | 1 => some .operating | 2 => some .maintenance | 3 => some .configFault | _ => none

/-- Coding of the status period. -/
def periodCode : Period → Nat
  | .p50 => 1 | .p100 => 2 | .p200 => 3

/-- The period of a coding. -/
def periodOf : Nat → Option Period
  | 1 => some .p50 | 2 => some .p100 | 3 => some .p200 | _ => none

/-- Coding of a flag byte. -/
def flagCode (b : Bool) : Nat := if b then 1 else 0

/-- The flag of a coding. -/
def flagOf : Nat → Option Bool
  | 0 => some false | 1 => some true | _ => none

/-- Coding of a TRIP class. -/
def tripClassCode : TripClass → Nat
  | .fire => 1 | .thermal => 2

/-- The TRIP class of a coding. -/
def tripClassOf : Nat → Option TripClass
  | 1 => some .fire | 2 => some .thermal | _ => none

/-- Coding of a DECLINE reason. -/
def declineCode : DeclineReason → Nat
  | .state => 1 | .blocked => 2 | .full => 3 | .duplicate => 4 | .residual => 5 | .degraded => 6

/-- The DECLINE reason of a coding. -/
def declineOf : Nat → Option DeclineReason
  | 1 => some .state | 2 => some .blocked | 3 => some .full | 4 => some .duplicate | 5 => some .residual
  | 6 => some .degraded | _ => none

/-- A code as the byte that carries it. -/
def codeByte (n : Nat) : Byte := BitVec.ofNat 8 n

/-! ### Payloads as bytes -/

/-- The eighteen bytes of a STATUS payload. -/
def statusBytes (p : StatusPayload) : List Byte :=
  [codeByte (modeCode p.mode), codeByte (periodCode p.period)] ++ p.bays.toList.map (fun b => codeByte (bayStateCode b)) ++
    [codeByte (flagCode p.zonePresent), codeByte (zoneStateCode p.zoneState)] ++ bytes16 p.zoneAge ++
    [codeByte p.freeSlots.val, codeByte (flagCode p.accepting), p.classes.setWidth 8, p.fireSections, p.thermalSections,
      codeByte p.leading.val, codeByte (flagCode p.lockout), codeByte p.fault.val]

/-- The flags byte of an OFFER: Edecl present, Residual present, degraded, rest-passed in bits 0 to 3. -/
def offerFlags (o : OfferPayload) : Byte :=
  (0#4 ++ BitVec.ofBool o.restPassed) ++ BitVec.ofBool o.degraded ++ BitVec.ofBool o.residual.isSome ++ BitVec.ofBool o.edecl.isSome

/-- The thirty-two bytes of an OFFER payload. -/
def offerBytes (o : OfferPayload) : List Byte :=
  packIdBytes o.id ++ [o.cls, o.cells, offerFlags o] ++ bytes24 (o.edecl.getD 0#24) ++ bytes32 o.qdis ++ bytes32 o.edis ++
    bytes24 (o.residual.getD 0#24) ++ [o.originBay, o.dest]

/-- A frame as its bytes: header, payload, check value (10.1). -/
def frameBytes (h : Header) (kind : Byte) (payload : List Byte) : List Byte :=
  let covered := [h.line, kind, h.sender, h.dest, h.seq, BitVec.ofNat 8 payload.length] ++ payload
  covered ++ bytes16 (crc16 covered)

/-! ### Payloads read -/

/-- The STATUS items of a payload of 18 bytes, each inside its coding (R183). -/
def statusOf (p : List Byte) : Option StatusPayload := do
  guard (p.length = 18)
  let mode ← modeOf (byteAt p 0).toNat
  let period ← periodOf (byteAt p 1).toNat
  let b0 ← bayStateOf (byteAt p 2).toNat
  let b1 ← bayStateOf (byteAt p 3).toNat
  let b2 ← bayStateOf (byteAt p 4).toNat
  let b3 ← bayStateOf (byteAt p 5).toNat
  let present ← flagOf (byteAt p 6).toNat
  let zone ← zoneStateOf (byteAt p 7).toNat
  let accepting ← flagOf (byteAt p 11).toNat
  let lockout ← flagOf (byteAt p 16).toNat
  guard ((byteAt p 12).toNat < 64)
  if free : (byteAt p 10).toNat < 5 then
    if lead : (byteAt p 15).toNat < 67 then
      if fault : (byteAt p 17).toNat < 12 then
        some
          { mode := mode, period := period, bays := #v[b0, b1, b2, b3], zonePresent := present, zoneState := zone,
            zoneAge := word16At p 8, freeSlots := ⟨_, free⟩, accepting := accepting, classes := (byteAt p 12).setWidth 6,
            fireSections := byteAt p 13, thermalSections := byteAt p 14, leading := ⟨_, lead⟩, lockout := lockout,
            fault := ⟨_, fault⟩ }
      else none
    else none
  else none

/-- The OFFER items of a payload of 32 bytes; a field whose flag is clear is ignored, and so are flag bits 4 to 7 (R184). -/
def offerOf (p : List Byte) : Option OfferPayload :=
  if p.length = 32 then
    let flags := byteAt p 15
    some
      { id := packIdAt p 0, cls := byteAt p 13, cells := byteAt p 14
        edecl := if flags.getLsbD 0 then some (word24At p 16) else none
        qdis := word32At p 19, edis := word32At p 23
        residual := if flags.getLsbD 1 then some (word24At p 27) else none
        degraded := flags.getLsbD 2, restPassed := flags.getLsbD 3, originBay := byteAt p 30, dest := byteAt p 31 }
  else none

/-- The pack ID of an ACCEPT, WITHDRAW, LANDED or DECLINE payload of n bytes, its length 1 to 12 (R183). -/
def handoverIdOf (n : Nat) (p : List Byte) : Option PackId :=
  if p.length = n ∧ 1 ≤ (byteAt p 0).toNat ∧ (byteAt p 0).toNat ≤ 12 then some (packIdAt p 0) else none

/-- The request a REQUEST payload spells, or the malformed request it is (10.1, R190). A payload without its kind byte counts as
kind 0. The arguments of an ADMIT take 21 bytes with the kind, where the table's L says 20: the widths are followed (log 32). -/
def requestOf (h : Header) (p : List Byte) : Instr :=
  let kind := byteAt p 0
  let bad := Instr.requestMalformed h kind
  match kind.toNat, p.length with
  | 1, 21 =>
    match flagOf (byteAt p 17).toNat with
    | some given =>
      .admitPack h (byteAt p 1) (packIdAt p 2) (byteAt p 15) (byteAt p 16) (if given then some (word24At p 18) else none)
    | none => bad
  | 2, 2 => .start h (byteAt p 1)
  | 3, 2 => .reject h (byteAt p 1)
  | 4, 2 => if byteAt p 1 = 255#8 then .clearChute h else .clearBay h (byteAt p 1)
  | 5, 14 => .resolveLost h (packIdAt p 1)
  | 6, 1 => .zoneStart h
  | 7, 1 => .zoneStop h
  | 8, 1 => .run h
  | 9, 1 => .halt h
  | 10, 2 => .ack h (byteAt p 1)
  | 11, 1 => .reset h
  | 12, 2 =>
    match flagOf (byteAt p 1).toNat with
    | some true => .maintOn h
    | some false => .maintOff h
    | none => bad
  | 13, 4 => .inhibit h (byteAt p 1) (word16At p 2)
  | 14, 15 => if byteAt p 1 = 1#8 then .queryPackId h (packIdAt p 2) else bad
  | 14, 3 =>
    if byteAt p 1 = 2#8 then .queryPackBay h (byteAt p 2)
    else if byteAt p 1 = 3#8 then .queryPackPosition h (byteAt p 2) else bad
  | 15, 2 => .queryCauses h (byteAt p 1)
  | 16, 3 => .queryLog h (word16At p 1)
  | 17, 1 => .queryCounts h
  | 18, 1 => .restart h
  | _, _ => bad

/-- The command that a frame on the bus is: its kind's row when the check value, the length, the kind and the form are right, and
FRAME_DISCARDED otherwise (R182, R183). A length above 48 is no test of its own (log 29). The tests on line ID, sender and destination
read the node and stand in the meanings. -/
def decodeFrame (raw : List Byte) : Instr :=
  let p := (raw.drop 6).take (byteAt raw 5).toNat
  let h : Header := { line := byteAt raw 0, sender := byteAt raw 2, dest := byteAt raw 3, seq := byteAt raw 4 }
  let bad := Instr.frameDiscarded raw
  if raw.length = 8 + (byteAt raw 5).toNat ∧ crc16 (raw.take (raw.length - 2)) = word16At raw (raw.length - 2) then
    match (byteAt raw 1).toNat with
    | 1 => ((statusOf p).map (Instr.status h)).getD bad
    | 2 => if p.length = 2 then ((tripClassOf (byteAt p 0).toNat).map fun c => Instr.trip h c (byteAt p 1)).getD bad else bad
    | 3 => ((offerOf p).map (Instr.offer h)).getD bad
    | 4 => ((handoverIdOf 13 p).map (Instr.accept h)).getD bad
    | 5 =>
      match handoverIdOf 14 p, declineOf (byteAt p 13).toNat with
      | some id, some r => .decline h id r
      | _, _ => bad
    | 6 => ((handoverIdOf 13 p).map (Instr.withdraw h)).getD bad
    | 7 => ((handoverIdOf 13 p).map (Instr.landed h)).getD bad
    | 8 => requestOf h p
    | 9 => .replyReceived h p
    | _ => bad
  else bad

/-- The bytes of a received frame that a command stands for; none for a command that is no frame, and for a discarded or malformed one. -/
def encodeFrame : Instr → Option (List Byte)
  | .status h p => some (frameBytes h 1 (statusBytes p))
  | .trip h c s => some (frameBytes h 2 [codeByte (tripClassCode c), s])
  | .offer h o => some (frameBytes h 3 (offerBytes o))
  | .accept h id => some (frameBytes h 4 (packIdBytes id))
  | .decline h id r => some (frameBytes h 5 (packIdBytes id ++ [codeByte (declineCode r)]))
  | .withdraw h id => some (frameBytes h 6 (packIdBytes id))
  | .landed h id => some (frameBytes h 7 (packIdBytes id))
  | .replyReceived h p => some (frameBytes h 9 p)
  | .admitPack h bay id cls cells edecl =>
    some (frameBytes h 8 ([1, bay] ++ packIdBytes id ++ [cls, cells, codeByte (flagCode edecl.isSome)] ++ bytes24 (edecl.getD 0)))
  | .start h bay => some (frameBytes h 8 [2, bay])
  | .reject h bay => some (frameBytes h 8 [3, bay])
  | .clearBay h bay => some (frameBytes h 8 [4, bay])
  | .clearChute h => some (frameBytes h 8 [4, 255])
  | .resolveLost h id => some (frameBytes h 8 (5 :: packIdBytes id))
  | .zoneStart h => some (frameBytes h 8 [6])
  | .zoneStop h => some (frameBytes h 8 [7])
  | .run h => some (frameBytes h 8 [8])
  | .halt h => some (frameBytes h 8 [9])
  | .ack h scope => some (frameBytes h 8 [10, scope])
  | .reset h => some (frameBytes h 8 [11])
  | .maintOn h => some (frameBytes h 8 [12, 1])
  | .maintOff h => some (frameBytes h 8 [12, 0])
  | .inhibit h row seconds => some (frameBytes h 8 ([13, row] ++ bytes16 seconds))
  | .queryPackId h id => some (frameBytes h 8 ([14, 1] ++ packIdBytes id))
  | .queryPackBay h bay => some (frameBytes h 8 [14, 2, bay])
  | .queryPackPosition h p => some (frameBytes h 8 [14, 3, p])
  | .queryCauses h p => some (frameBytes h 8 [15, p])
  | .queryLog h n => some (frameBytes h 8 (16 :: bytes16 n))
  | .queryCounts h => some (frameBytes h 8 [17])
  | .restart h => some (frameBytes h 8 [18])
  | .frameDiscarded _ | .requestMalformed _ _ | .coldReset _ | .loadEnd _ _ | .pairArrival _ _ _ _ _ | .tbArrival _ _
  | .zoneArrival _ _ _ _ | .discreteArrival _ | .spArrival _ | .secondBoundary | .closingWindowExpiry _ | .openingWindowExpiry _
  | .restTimerExpiry _ | .offerBackoffExpiry _ | .rgPulseEnd _ | .fpPulseEnd | .offerQueueExpiry _ | .answerWindowExpiry _
  | .transitDeadlineExpiry _ | .reservationExpiry _ | .feedDeadlineExpiry | .purgeTimerExpiry | .settleTimerExpiry
  | .floodTimerExpiry | .persistenceTimerExpiry _ | .reformationTimerExpiry | .dwellTimerStep _ | .inhibitExpiry _
  | .stalenessDeadlineExpiry _ | .startWindowExpiry | .statusDue | .transmitBlockedWatch | .transmitAttempt | .collision
  | .backoffExpiry | .frameLeaves | .warmResetEnd => none

/-- The command that a word of the opcode table spells. No row of this block's table gives bits, so no word spells one. -/
def decodeTableWord (_nbits _w : Nat) : Option Instr := none

end Sys2Proof
end

