-- ==== Sys2Proof/Machine/State.lean ====
section
/-! DEFINITION. The state of the node as plain data, block by block (00, Blocks), the reasons a step can stop, and the state after reset.
Times named `…Until` and `…At` are counts of half milliseconds since cold reset; those the manual states in node time are counts of
10 ms since cold reset and say so. -/

namespace Sys2Proof.Machine

/-- No command of this part ends in a fault: the manual names no event that stops the machine. Safe: nothing is stopped that goes on. -/
inductive Fault where
  deriving DecidableEq, Repr

/-- Why a command has no meaning. -/
inductive Refusal where
  /-- Raised by an arm of exec whose row has no meaning yet; there is none left. Safe: the machine stops where the part goes on. -/
  | notModelled (mnemonic : String)
  deriving DecidableEq, Repr

/-! ### Loader and node (11) -/

/-- The node modes (R203), and the time inside a warm reset, in which the node holds none of them (R193). -/
inductive Mode where
  | starting | configFault | operating | maintenance | warmReset
  deriving DecidableEq, Repr

/-- The loaded image (R197): line ID, period and the rest, as they passed validation. -/
structure Image where
  lineId : Nat
  period : Period
  body : ImageBody
  deriving DecidableEq, Repr

/-- The RESTART in progress: when the reset ends, and whom its REPLY answers (R193). -/
structure Restarting where
  endAt : Nat
  terminal : Addr
  seq : Byte
  deriving DecidableEq, Repr

/-- What the configuration loader holds (11). -/
structure Loader where
  mode : Mode
  restart : Option Restarting
  address : Addr
  image : Option Image
  lineId : Byte
  period : Period
  faultCode : Fin 12
  deriving DecidableEq, Repr

/-! ### Measurement unit (01) -/

/-- The status of an analog channel (1.1). -/
inductive ChannelStatus where
  | noSample | valid | held | invalid
  deriving DecidableEq, Repr

/-- A channel record: status, value in use, invalid run length, and the clamp flag of V and I (R1 to R3). -/
structure Channel where
  status : ChannelStatus
  value : Option Int
  run : Nat
  clamp : Bool
  deriving DecidableEq, Repr

/-- A comparator or discrete input: its last 8 decisions, the newest in bit 0, and its filtered state (R8). -/
structure Comparator where
  history : BitVec 8
  filtered : Bool
  deriving DecidableEq, Repr

/-- The thresholds of the pack in a bay (R12). -/
structure Thresholds where
  vend : Nat
  vrel : Nat
  iend : Nat
  deriving DecidableEq, Repr

/-- The measurement unit's state for one bay. -/
structure BayMeasure where
  v : Channel
  i : Channel
  tb : Channel
  cvEnd : Comparator
  cvRel : Comparator
  ciEnd : Comparator
  ciMax : Comparator
  ciRev : Comparator
  ctOver : Comparator
  ctRise : Comparator
  pp : Comparator
  kf : Comparator
  ring : List Int
  thresholds : Option Thresholds
  deriving DecidableEq, Repr

/-- The measurement unit's state for the zone and the general inputs. `spark` holds ten bins, oldest first, the current bin last (R21). -/
structure ZoneMeasure where
  o2a : Channel
  o2b : Channel
  h1 : Channel
  h2 : Channel
  coInert : Comparator
  coTop : Comparator
  coWarn : Comparator
  coDis : Comparator
  chFire1 : Comparator
  chFire2 : Comparator
  d : Vector Comparator 4
  dc : Comparator
  ar : Comparator
  fc : Comparator
  g : Vector Comparator 8
  spark : List Nat
  deriving DecidableEq, Repr

/-! ### Bay controllers (02) -/

/-- Where a HELD bay goes when its hold ends (2.1). -/
inductive ReturnState where
  | connecting | resting | safeRecheck
  deriving DecidableEq, Repr

/-- The contactor window with its expiry (R30, R31). -/
inductive ContactorWindow where
  | none
  | closing (until_ : Nat)
  | opening (until_ : Nat)
  deriving DecidableEq, Repr

/-- Why a pack is in quarantine (2.7). -/
inductive QuarantineReason where
  | rebound | fraction | residual | thermal | rejected
  deriving DecidableEq, Repr

/-- One bay controller (2.1). `mismatch`, `removed` and `foundAtStart` are the conditions of EL4[b], AC1[b] and AC2[b] as the controller
keeps them; `ppSeen` counts the PP decisions since the filter was cleared while the presence check is pending (R47). -/
structure Bay where
  state : BayState
  ret : Option ReturnState
  window : ContactorWindow
  endArmed : Bool
  restUntil : Option Nat
  backoffUntil : Option Nat
  reason : Option QuarantineReason
  presencePending : Bool
  ppSeen : Nat
  rgUntil : Option Nat
  mismatch : Bool
  removed : Bool
  foundAtStart : Bool
  deriving DecidableEq, Repr

/-! ### Pack table (03) -/

/-- The stages of a record (3.1). -/
inductive Stage where
  | atBay | inTransit | missing | reserved | waiting | feeding | unidentified
  deriving DecidableEq, Repr

/-- The two accumulators of a pack in a bay: QA in 10 µC, EA in 0.1 µJ (R13). -/
structure Accumulators where
  qa : Int
  ea : Int
  deriving DecidableEq, Repr

/-- A pack record (R49). `deadline` is in counts of node time since cold reset. -/
structure PackRecord where
  id : Option PackId
  stage : Stage
  bay : Option BayIdx
  origin : Option Addr
  dest : Option Addr
  cls : Option (Fin 4)
  cells : Option Nat
  edecl : Option Nat
  qdis : Int
  edis : Int
  residual : Option Nat
  acc : Option Accumulators
  rebounds : Nat
  restPassed : Bool
  degraded : Bool
  thermal : Bool
  admittedAt : BitVec 32
  stageSince : BitVec 32
  unanswered : Nat
  deadline : Option Nat
  deriving DecidableEq, Repr

/-- The six custody counters (R61). -/
structure Counters where
  admitted : BitVec 32
  handedIn : BitVec 32
  handedOut : BitVec 32
  shredded : BitVec 32
  cleared : BitVec 32
  lost : BitVec 32
  deriving DecidableEq, Repr

/-- The pack table in insertion order, with its counters and energy totals (03). -/
structure PackTable where
  records : List PackRecord
  counters : Counters
  dischargedTotal : Nat
  shreddedTotal : Nat
  deriving DecidableEq, Repr

/-! ### Handover engine (04) -/

/-- The offer entry of a bay (4.2): the ID offered, its destination, the time of queuing, and in OUT the end of the answer window. -/
inductive OfferEntry where
  | none
  | queued (id : PackId) (dest : Addr) (at_ : Nat)
  | out (id : PackId) (dest : Addr) (at_ : Nat) (window : Nat)
  deriving DecidableEq, Repr

/-- What the handover engine keeps for one bay (4.2, R87). -/
structure Handover where
  entry : OfferEntry
  lastDecline : Option DeclineReason
  claim : Bool
  deriving DecidableEq, Repr

/-! ### Zone controller (05) -/

/-- The zone controller (5.1). `since` is the count of node time at the entry to the state, from which the state age is read; a slot of
`queue` is the ID of its record (log 28). -/
structure Zone where
  state : ZoneState
  since : Nat
  purgeUntil : Option Nat
  settleUntil : Option Nat
  floodUntil : Option Nat
  feedUntil : Option Nat
  topUp : Bool
  fpUntil : Option Nat
  queue : List PackId
  deriving DecidableEq, Repr

/-! ### Fire logic (06) -/

/-- A detector record (6.1); `persistUntil` is in counts of node time. -/
structure Detector where
  active : Bool
  onset : Option (BitVec 32)
  persistUntil : Option Nat
  persisted : Bool
  deriving DecidableEq, Repr

/-- The fire logic (6.1): detectors, the formed condition of FD1, the held set of FD1 to FD4, the re-formation timer, and whether the zone
was in FIRE at the warm reset whose re-formation interval has not ended (R122; log 38). -/
structure Fire where
  det : Vector Detector 4
  fd1 : Bool
  held : Vector Bool 4
  reformUntil : Option Nat
  zoneKept : Bool
  deriving DecidableEq, Repr

/-! ### Cause table and trip log (07) -/

/-- The fields of a row (7.1). -/
structure RowState where
  condition : Bool
  raised : Bool
  acked : Bool
  inhibit : Option Nat
  firstOut : Bool
  episode : BitVec 16
  onset : Option (BitVec 32)
  logEntry : Option (BitVec 16)
  deriving DecidableEq, Repr

/-- The section set and originators of FD5 or TH3 (7.1). -/
structure Remote where
  sections : Sections
  originators : List Addr
  deriving DecidableEq, Repr

/-- A trip log entry (R143). -/
structure LogEntry where
  number : BitVec 16
  episode : BitVec 16
  row : Row
  onset : BitVec 32
  firstOut : Bool
  cleared : Option (BitVec 32)
  deriving DecidableEq, Repr

/-- The cause table with the trip log (07). -/
structure Causes where
  rows : Vector RowState 66
  remoteFire : Remote
  remoteThermal : Remote
  episode : BitVec 16
  log : List LogEntry
  nextEntry : BitVec 16
  deriving DecidableEq, Repr

/-! ### Dwell timers (08) -/

/-- The states of a dwell timer (R159). -/
inductive TimerState where
  | idle | timing | done
  deriving DecidableEq, Repr

/-- A dwell timer; `stepFrom` is the count of node time its next 100 ms step is timed from (R161). -/
structure Timer where
  state : TimerState
  elapsed : Nat
  stepFrom : Nat
  deriving DecidableEq, Repr

/-! ### Peer monitor (09) -/

/-- The states of a peer entry (9.1). -/
inductive PeerState where
  | absent | fresh | stale | suspect | incompatible
  deriving DecidableEq, Repr

/-- A watched-peer entry (9.1). `reported` is its last accepted STATUS. -/
structure Peer where
  state : PeerState
  lastSeq : Option Byte
  lastArrival : Option (BitVec 32)
  staleAt : Option Nat
  early : Nat
  regular : Nat
  reported : Option StatusPayload
  deriving DecidableEq, Repr

/-! ### Bus interface (10) -/

/-- The handover frames the node can queue (4.1). -/
inductive HandoverBody where
  | offer (o : OfferPayload)
  | accept (id : PackId)
  | decline (id : PackId) (reason : DeclineReason)
  | withdraw (id : PackId)
  | landed (id : PackId)
  deriving DecidableEq, Repr

/-- A frame of the handover FIFO. -/
structure HandoverFrame where
  dest : Addr
  body : HandoverBody
  deriving DecidableEq, Repr

/-- Result codes (R189), in the order of their coding (10.1). -/
inductive ResultCode where
  | done | state | notFound | full | range | duplicate | permit | mode | class_ | queue | notTerminal
  deriving DecidableEq, Repr

/-- A record as QUERY-PACK reports it: without QA and EA, with its position and the time to its deadline in 100 ms counts (R66). -/
structure RecordView where
  record : PackRecord
  position : Nat
  remaining : Option Nat
  deriving DecidableEq, Repr

/-- A bay as QUERY-PACK reports it (R24). -/
structure BayView where
  state : BayState
  ret : Option ReturnState
  holds : List Row
  permitLost : Bool
  restRemaining : Option Nat
  backoffRemaining : Option Nat
  reason : Option QuarantineReason
  lastDecline : Option DeclineReason
  record : Option RecordView
  deriving DecidableEq, Repr

/-- A record's summary in the list form of QUERY-PACK (R66). -/
structure RecordSummary where
  id : Option PackId
  stage : Stage
  bay : Option BayIdx
  origin : Option Addr
  dest : Option Addr
  deriving DecidableEq, Repr

/-- A row as QUERY-CAUSES reports it (R146). -/
structure RowView where
  row : Row
  condition : Bool
  raised : Bool
  acked : Bool
  inhibitRemaining : Option Nat
  firstOut : Bool
  episode : BitVec 16
  onset : Option (BitVec 32)
  logEntry : Option (BitVec 16)
  remote : Option Remote
  deriving DecidableEq, Repr

/-- The items of a REPLY past its result code, as the owning rules give them (R191). -/
inductive ReplyPayload where
  | none
  | admitted (position vend vrel iend : Nat)
  | clearedPack (id : Option PackId) (reason : Option QuarantineReason) (restPassed degraded thermal : Bool)
  | clearedChute (admittedAt : BitVec 32)
  | count (n : Nat)
  | pack (view : RecordView)
  | bay (view : BayView)
  | list (held : Nat) (summaries : List RecordSummary)
  | causes (episode : BitVec 16) (leading : Option Row) (raised inhibited : Nat) (rows : List RowView)
  | log (bounds : Option (BitVec 16 × BitVec 16)) (held : Nat) (entries : List LogEntry)
  | counts (counters : Counters) (discharged shredded : Nat) (stages : Vector Nat 7) (left right : BitVec 32)
  deriving DecidableEq, Repr

/-- A frame of the REPLY FIFO: whom it answers, the request kind and sequence, the result and its items (10.1, R190). -/
structure Reply where
  dest : Addr
  kind : Byte
  seq : Byte
  result : ResultCode
  payload : ReplyPayload
  deriving DecidableEq, Repr

/-- The frame an attempt carries, as built or taken at its start (R185). -/
inductive TxFrame where
  | trip (cls : TripClass) (sections : Sections)
  | status (p : StatusPayload)
  | handover (f : HandoverFrame)
  | reply (r : Reply)
  deriving DecidableEq, Repr

/-- The attempt in progress. `held` is no once the owner has taken the frame out of its FIFO (R188). -/
structure Attempt where
  frame : TxFrame
  seq : Byte
  held : Bool
  deriving DecidableEq, Repr

/-- The bus interface (10.3) with the STATUS schedule (R175, R178). -/
structure Bus where
  tripFire : Option Sections
  tripThermal : Option Sections
  statusPending : Bool
  statusDueAt : Option Nat
  watchUntil : Option Nat
  blocked : Bool
  handover : List HandoverFrame
  replies : List Reply
  attempt : Option Attempt
  backoffUntil : Option Nat
  sequence : Byte
  deriving DecidableEq, Repr

/-! ### The state -/

/-- The node. `now` counts half milliseconds since cold reset; `secondsDue` counts second boundaries of node time not yet taken (R21).
`freeIndex` is the model's own counter for free values (log 23) and `pending` the queue of waiting commands. -/
structure State where
  now : Nat
  secondsDue : Nat
  loader : Loader
  meas : Vector BayMeasure 4
  zmeas : ZoneMeasure
  bays : Vector Bay 4
  packs : PackTable
  handover : Vector Handover 4
  zone : Zone
  fire : Fire
  causes : Causes
  timers : Vector Timer 16
  peers : Vector Peer 12
  startUntil : Option Nat
  bus : Bus
  freeIndex : Nat
  pending : List Instr
  deriving DecidableEq, Repr

/-! ### Reset values -/

/-- A channel record at either reset (R22, R23). -/
def channelReset : Channel := { status := .noSample, value := none, run := 0, clamp := false }

/-- A cleared comparator: eight false decisions, filtered state false (R11). -/
def comparatorReset : Comparator := { history := 0, filtered := false }

/-- The measurement unit's state of a bay without a pack at either reset (R22). -/
def bayMeasureReset : BayMeasure :=
  { v := channelReset, i := channelReset, tb := channelReset
    cvEnd := comparatorReset, cvRel := comparatorReset, ciEnd := comparatorReset, ciMax := comparatorReset
    ciRev := comparatorReset, ctOver := comparatorReset, ctRise := comparatorReset, pp := comparatorReset, kf := comparatorReset
    ring := [], thresholds := none }

/-- The measurement unit's state of the zone and the general inputs at either reset (R22, R23). -/
def zoneMeasureReset : ZoneMeasure :=
  { o2a := channelReset, o2b := channelReset, h1 := channelReset, h2 := channelReset
    coInert := comparatorReset, coTop := comparatorReset, coWarn := comparatorReset, coDis := comparatorReset
    chFire1 := comparatorReset, chFire2 := comparatorReset, d := Vector.replicate 4 comparatorReset
    dc := comparatorReset, ar := comparatorReset, fc := comparatorReset, g := Vector.replicate 8 comparatorReset
    spark := List.replicate 10 0 }

/-- A bay controller at cold reset (R47). -/
def bayReset : Bay :=
  { state := .empty, ret := none, window := .none, endArmed := false, restUntil := none, backoffUntil := none, reason := none
    presencePending := true, ppSeen := 0, rgUntil := none, mismatch := false, removed := false, foundAtStart := false }

/-- The custody counters at cold reset (R68). -/
def countersReset : Counters := { admitted := 0, handedIn := 0, handedOut := 0, shredded := 0, cleared := 0, lost := 0 }

/-- The zone controller at cold reset (R109). -/
def zoneReset : Zone :=
  { state := .air, since := 0, purgeUntil := none, settleUntil := none, floodUntil := none, feedUntil := none, topUp := false
    fpUntil := none, queue := [] }

/-- A detector record at either reset (R121, R122). -/
def detectorReset : Detector := { active := false, onset := none, persistUntil := none, persisted := false }

/-- A lowered row with the field values of cold reset (R147). -/
def rowReset : RowState :=
  { condition := false, raised := false, acked := false, inhibit := none, firstOut := false, episode := 0, onset := none
    logEntry := none }

/-- A remote row's sections and originators while lowered (R147). -/
def remoteReset : Remote := { sections := 0, originators := [] }

/-- A dwell timer at either reset (R165). -/
def timerReset : Timer := { state := .idle, elapsed := 0, stepFrom := 0 }

/-- A peer entry at either reset (R179, R180). -/
def peerReset : Peer :=
  { state := .absent, lastSeq := none, lastArrival := none, staleAt := none, early := 0, regular := 0, reported := none }

/-- The bus interface at cold reset (R194, R179). -/
def busReset : Bus :=
  { tripFire := none, tripThermal := none, statusPending := false, statusDueAt := none, watchUntil := none, blocked := false
    handover := [], replies := [], attempt := none, backoffUntil := none, sequence := 0 }

/-- The loader as a cold reset leaves it: STARTING, the image not yet read (R195, R196). The line ID and the period before the load are
the model's (log 5). -/
def loaderReset : Loader :=
  { mode := .starting, restart := none, address := 0, image := none, lineId := 0, period := .p200, faultCode := 0 }

/-- The machine right after reset: the load of the image has begun and nothing else has happened (R22, R47, R68, R88, R109, R121, R147,
R165, R179, R194, R196). DESIGN CHOICE: the address pins read 0 (log 3). -/
def State.reset : State :=
  { now := 0, secondsDue := 0, loader := loaderReset
    meas := Vector.replicate 4 bayMeasureReset, zmeas := zoneMeasureReset, bays := Vector.replicate 4 bayReset
    packs := { records := [], counters := countersReset, dischargedTotal := 0, shreddedTotal := 0 }
    handover := Vector.replicate 4 { entry := .none, lastDecline := none, claim := false }
    zone := zoneReset
    fire :=
      { det := Vector.replicate 4 detectorReset, fd1 := false, held := Vector.replicate 4 false, reformUntil := none, zoneKept := false }
    causes :=
      { rows := Vector.replicate 66 rowReset, remoteFire := remoteReset, remoteThermal := remoteReset, episode := 0, log := []
        nextEntry := 1 }
    timers := Vector.replicate 16 timerReset, peers := Vector.replicate 12 peerReset, startUntil := none, bus := busReset
    freeIndex := 0, pending := [] }

end Sys2Proof.Machine

/-- The bytes of a REPLY from byte 3 on, in their order. The manual gives the order of the items and no widths (10.1), so this is a free
value (log 10). -/
opaque Sys2Proof.Config.replyBytes : Sys2Proof.Machine.ReplyPayload → Vector Sys2Proof.Byte 45

/-- How many bytes the items of a REPLY take: a free value too (log 10), at most the 45 that a payload of 48 bytes leaves past byte 2
(R181). -/
opaque Sys2Proof.Config.replyLength : Sys2Proof.Machine.ReplyPayload → Fin 46
end

