-- ==== Sys2Proof/Machine/Ops.lean ====
section
/-! DEFINITION. Named operations over the state: node time, the loaded image as the blocks read it, updates of one block, the pack table,
the FIFOs, remaining times and free choices. -/

namespace Sys2Proof.Machine

/-! ### Mode and time -/

/-- The node is OPERATING or MAINTENANCE (R203). -/
def inService (s : State) : Bool := decide (s.loader.mode = .operating ∨ s.loader.mode = .maintenance)

/-- Counts of node time since cold reset (00, Units). -/
def nodeCount (s : State) : Nat := s.now / Config.count

/-- Node time as it is recorded and reported: 32 bits, wrapping (00, Units). -/
def nodeTime (s : State) : BitVec 32 := BitVec.ofNat 32 (nodeCount s)

/-- The millisecond stamp of an arrival (R168). -/
def arrivalStamp (s : State) : BitVec 32 := BitVec.ofNat 32 (s.now / Config.ms)

/-- A running timer whose interval has run (00, Time). A stopped timer is never due. -/
def due (s : State) (t : Option Nat) : Bool := t.any fun u => decide (u ≤ s.now)

/-- A deadline in counts of node time that has been reached. -/
def dueCount (s : State) (t : Option Nat) : Bool := t.any fun u => decide (u ≤ nodeCount s)

/-- Half a millisecond passes. A second boundary of node time reached in service waits for its SECOND_BOUNDARY (R21, log 1). -/
def tick (s : State) : State :=
  let t : State := { s with now := s.now + 1 }
  if inService s ∧ t.now % Config.count = 0 ∧ (nodeTime t).toNat % 100 = 0 then { t with secondsDue := s.secondsDue + 1 } else t

/-- The four bays, lowest first. -/
def allBays : List BayIdx := [0, 1, 2, 3]

/-- The twelve watched positions, lowest first. -/
def allPositions : List (Fin 12) := [0, 1, 2, 3, 4, 5, 6, 7, 8, 9, 10, 11]

/-! ### The image as read -/

/-- The fields of a node that holds no image: nothing configured (log 5). -/
def blankBody : ImageBody :=
  { terminals := [], watched := [], transitLimit := 0, samplePeriod := 0, ke := 1, kt := 1, kg := 1, kh := 1, kd := 1, bayCount := 0
    bays := [], classes := Vector.replicate 4 { vendCell := 0, vrelCell := 0, iend := 0 }, imax := 0, irev := 0, tover := 0, rlim := 0
    restInterval := 0, maxRebounds := 0, pmin := 0, releaseLimit := 0, offerBackoff := 0, zonePresent := 0, zone := none, window := 0
    tconf := 0, hfire := 0, swarn := 0, sfire := 0, ranking := Vector.replicate 5 .account, timers := [], siteTerms := [] }

/-- The configured values (R197). -/
def cfg (s : State) : ImageBody := (s.loader.image.map Image.body).getD blankBody

/-- Bay b is configured (R24). -/
def bayConfigured (s : State) (b : BayIdx) : Bool := decide (b.val < (cfg s).bayCount)

/-- The zone fields of a node with a zone (R90). -/
def zoneCfg (s : State) : Option ZoneConfig := if (cfg s).zonePresent = 1 then (cfg s).zone else none

/-- The node has a zone (R90). -/
def hasZone (s : State) : Bool := (zoneCfg s).isSome

/-- Section and destination of a bay (11.2). -/
def bayCfg (s : State) (b : BayIdx) : BayConfig := (cfg s).bays.getD b.val { section_ := 0, dest := 0 }

/-- The section set of one bay. -/
def baySection (s : State) (b : BayIdx) : Sections := sectionBit (bayCfg s b).section_

/-- The configured destination of a bay. -/
def bayDest (s : State) (b : BayIdx) : Addr := BitVec.ofNat 8 (bayCfg s b).dest

/-- The zone's section as a set; empty on a node without a zone. -/
def zoneSection (s : State) : Sections := ((zoneCfg s).map fun z => sectionBit z.section_).getD 0

/-- The own sections: those of the configured bays and of the own zone (R134, R197). -/
def ownSections (s : State) : Sections :=
  allBays.foldl (fun acc b => if bayConfigured s b then acc ||| baySection s b else acc) (zoneSection s)

/-- The watched position of a station, if it is watched (9.1). -/
def watchIndex (s : State) (a : Addr) : Option (Fin 12) :=
  allPositions.find? fun p => (cfg s).watched[p.val]? == some a.toNat

/-- A watched position is configured (R125, R166). -/
def peerConfigured (s : State) (p : Fin 12) : Bool := decide (p.val < (cfg s).watched.length)

/-- The period P, in half milliseconds. -/
def periodOfNode (s : State) : Nat := Config.period s.loader.period

/-- The definition of a dwell timer, if the image defines it (R159). -/
def timerDef (s : State) (d : Nat) : Option TimerDef := (cfg s).timers.find? fun t => t.number == d

/-! ### Updates of one block -/

/-- Changes the measurement state of one bay. -/
def updMeas (s : State) (b : BayIdx) (f : BayMeasure → BayMeasure) : State :=
  { s with meas := s.meas.set b.val (f s.meas[b]) b.isLt }

/-- Changes one bay controller. -/
def updBay (s : State) (b : BayIdx) (f : Bay → Bay) : State := { s with bays := s.bays.set b.val (f s.bays[b]) b.isLt }

/-- Changes what the handover engine keeps for one bay. -/
def updHandover (s : State) (b : BayIdx) (f : Handover → Handover) : State :=
  { s with handover := s.handover.set b.val (f s.handover[b]) b.isLt }

/-- Changes the measurement state of the zone. -/
def updZMeas (s : State) (f : ZoneMeasure → ZoneMeasure) : State := { s with zmeas := f s.zmeas }

/-- Changes the zone controller. -/
def updZone (s : State) (f : Zone → Zone) : State := { s with zone := f s.zone }

/-- Changes the fire logic. -/
def updFire (s : State) (f : Fire → Fire) : State := { s with fire := f s.fire }

/-- Changes one detector record. -/
def updDetector (s : State) (n : Fin 4) (f : Detector → Detector) : State :=
  updFire s fun x => { x with det := x.det.set n.val (f x.det[n]) n.isLt }

/-- Changes the cause table. -/
def updCauses (s : State) (f : Causes → Causes) : State := { s with causes := f s.causes }

/-- Changes the bus interface. -/
def updBus (s : State) (f : Bus → Bus) : State := { s with bus := f s.bus }

/-- Changes one peer entry. -/
def updPeer (s : State) (p : Fin 12) (f : Peer → Peer) : State := { s with peers := s.peers.set p.val (f s.peers[p]) p.isLt }

/-- Changes one dwell timer. -/
def updTimer (s : State) (d : Fin 16) (f : Timer → Timer) : State := { s with timers := s.timers.set d.val (f s.timers[d]) d.isLt }

/-- Changes the pack table. -/
def updPacks (s : State) (f : PackTable → PackTable) : State := { s with packs := f s.packs }

/-- Changes the loader. -/
def updLoader (s : State) (f : Loader → Loader) : State := { s with loader := f s.loader }

/-! ### Pack records (03) -/

/-- Changes the first element that satisfies a test. -/
def modifyFirst {α : Type} (p : α → Bool) (f : α → α) : List α → List α
  | [] => []
  | x :: xs => if p x then f x :: xs else x :: modifyFirst p f xs

/-- The record is that of the pack in bay b (R49: stage AT_BAY at that bay). -/
def isAtBay (b : BayIdx) (r : PackRecord) : Bool := decide (r.stage = .atBay ∧ r.bay = some b)

/-- The record carries the ID (R51). -/
def hasId (id : PackId) (r : PackRecord) : Bool := decide (r.id = some id)

/-- The record of the pack in bay b. -/
def recordOfBay (s : State) (b : BayIdx) : Option PackRecord := s.packs.records.find? (isAtBay b)

/-- The record that carries an ID. -/
def recordOfId (s : State) (id : PackId) : Option PackRecord := s.packs.records.find? (hasId id)

/-- Changes the records as a list. -/
def updRecords (s : State) (f : List PackRecord → List PackRecord) : State := updPacks s fun t => { t with records := f t.records }

/-- Changes the record of the pack in bay b. -/
def updRecordOfBay (s : State) (b : BayIdx) (f : PackRecord → PackRecord) : State := updRecords s (modifyFirst (isAtBay b) f)

/-- Changes the record that carries an ID. -/
def updRecordOfId (s : State) (id : PackId) (f : PackRecord → PackRecord) : State := updRecords s (modifyFirst (hasId id) f)

/-- Removes the record that carries an ID; the records after it close up (R50). -/
def removeRecordOfId (s : State) (id : PackId) : State := updRecords s fun l => l.eraseP (hasId id)

/-- A free record exists (R50). -/
def recordFree (s : State) : Bool := decide (s.packs.records.length < Config.tableSize)

/-- Places a new record after every record held (R50). -/
def addRecord (s : State) (r : PackRecord) : State := updRecords s fun l => l ++ [r]

/-- The record after a change of stage: stage-since is set (R49). -/
def toStage (s : State) (st : Stage) (r : PackRecord) : PackRecord := { r with stage := st, stageSince := nodeTime s }

/-- Changes the custody counters. -/
def updCounters (s : State) (f : Counters → Counters) : State := updPacks s fun t => { t with counters := f t.counters }

/-- A record's Edis taken into the discharged-energy total: negative adds nothing, the total saturates (R62). -/
def addDischarged (s : State) (edis : Int) : State :=
  updPacks s fun t => { t with dischargedTotal := min Config.totalMax (t.dischargedTotal + edis.toNat) }

/-- A record's Residual taken into the shredded-residual total (R60, R62). -/
def addShredded (s : State) (residual : Option Nat) : State :=
  updPacks s fun t => { t with shreddedTotal := min Config.totalMax (t.shreddedTotal + residual.getD 0) }

/-- Residual of a declared energy and a discharged one: the difference clamped to 0 and the declaration (R16). -/
def residualOf (edecl : Nat) (edis : Int) : Nat := min edecl ((edecl : Int) - edis).toNat

/-- The stage of a slot of the infeed queue is the stage of its record (5.6). -/
def slotStage (s : State) (id : PackId) : Option Stage := (recordOfId s id).map PackRecord.stage

/-- The number of internal claims held (R87). -/
def claimCount (s : State) : Nat := (allBays.filter fun b => s.handover[b].claim).length

/-- Slots and internal claims together (R80, R106). -/
def placesTaken (s : State) : Nat := s.zone.queue.length + claimCount s

/-! ### FIFOs -/

/-- The handover FIFO has room (R70). -/
def handoverFree (s : State) : Bool := decide (s.bus.handover.length < Config.handoverSize)

/-- Places a frame at the tail of the handover FIFO; with the FIFO full it is not sent (R76). -/
def queueHandover (s : State) (dest : Addr) (body : HandoverBody) : State :=
  if handoverFree s then updBus s fun u => { u with handover := u.handover ++ [{ dest := dest, body := body }] } else s

/-- Places a REPLY at the tail of the REPLY FIFO (R190). -/
def queueReply (s : State) (r : Reply) : State := updBus s fun u => { u with replies := u.replies ++ [r] }

/-- The frame is an OFFER of bay b. -/
def isOfferOf (b : BayIdx) (f : HandoverFrame) : Bool :=
  match f.body with
  | .offer o => decide (o.originBay.toNat = b.val)
  | _ => false

/-- Takes an unsent OFFER of bay b out of the FIFO (R71 to R73). An attempt that carries it completes, and is not of the FIFO any more
(R188). -/
def dropOffer (s : State) (b : BayIdx) : State :=
  updBus s fun u =>
    let carried := match u.attempt with
      | some { frame := .handover f, seq := _, held := true } => isOfferOf b f
      | _ => false
    { u with
      handover := u.handover.filter fun f => !isOfferOf b f
      attempt := if carried then u.attempt.map fun a => { a with held := false } else u.attempt }

/-- Merges a section into the pending TRIP of its class, or makes it the pending TRIP (R141). -/
def queueTrip (s : State) (c : TripClass) (sec : Sections) : State :=
  updBus s fun u =>
    match c with
    | .fire => { u with tripFire := some (u.tripFire.getD 0 ||| sec) }
    | .thermal => { u with tripThermal := some (u.tripThermal.getD 0 ||| sec) }

/-! ### Remaining times and free choices -/

/-- A time in a reporting unit. A time that is no whole number of units is reported as one of its two neighbours, and which is open
(log 9). -/
def inUnits (t unit_ : Nat) : Nat := t / unit_ + if t % unit_ = 0 then 0 else if Config.roundsUp t unit_ then 1 else 0

/-- The time a running timer has left, in a unit of half milliseconds. -/
def remaining (s : State) (t : Option Nat) (unit_ : Nat) : Option Nat := t.map fun u => inUnits (u - s.now) unit_

/-- Takes one free choice of order (log 7). -/
def takeChoice (s : State) : Bool × State := (Config.firstTaken s.freeIndex, { s with freeIndex := s.freeIndex + 1 })

end Sys2Proof.Machine
end

