-- ==== Sys2Proof/Machine/Flags.lean ====
section
/-! DEFINITION. Comparators and their filters (1.2), and the rows of the cause table: their positions and classes, raising, lowering,
episodes, the trip log and the leading cause (07). -/

namespace Sys2Proof.Machine

/-! ### Comparators -/

/-- The last k decisions of a history. -/
def lastDecisions (k : Nat) : BitVec 8 := BitVec.ofNat 8 (2 ^ k - 1)

/-- One decision taken with filter length k: shifted in, then the filtered state follows k agreeing decisions (R8). -/
def pushDecision (k : Nat) (d : Bool) (c : Comparator) : Comparator :=
  let h := (c.history <<< 1) ||| (BitVec.ofBool d).setWidth 8
  let m := lastDecisions k
  { history := h, filtered := if h &&& m = m then true else if h &&& m = 0 then false else c.filtered }

/-- A decision where the quantity has a value in use; none otherwise, and the comparator stands (R4, R5). -/
def decideOn (k : Nat) (v : Option Int) (test : Int → Bool) (c : Comparator) : Comparator :=
  match v with
  | some x => pushDecision k (test x) c
  | none => c

/-! ### Rows -/

/-- The four bay rows of a code, bay 0 first. -/
def bayRows (f : BayIdx → Row) : List Row := [f 0, f 1, f 2, f 3]

/-- The twelve LN1 rows, position 0 first. -/
def peerRows : List Row :=
  [.ln1 0, .ln1 1, .ln1 2, .ln1 3, .ln1 4, .ln1 5, .ln1 6, .ln1 7, .ln1 8, .ln1 9, .ln1 10, .ln1 11]

/-- The 66 rows in table order (7.1). -/
def allRows : List Row :=
  List.flatten
    [[.fd1, .fd2, .fd3, .fd4, .fd5, .fp1, .fp2, .at1, .at2, .at3, .at4, .at5], bayRows Row.th1, bayRows Row.th2, [.th3],
      bayRows Row.el1, bayRows Row.el2, bayRows Row.el3, bayRows Row.el4, peerRows, [.ln2], bayRows Row.ac1, bayRows Row.ac2,
      [.ac3, .ac4, .ac5], bayRows Row.ac6, [.ac7]]

/-- The place of a row in the table, one less than its position (7.1). -/
def rowIndex : Row → Fin 66
  | .fd1 => 0 | .fd2 => 1 | .fd3 => 2 | .fd4 => 3 | .fd5 => 4 | .fp1 => 5 | .fp2 => 6
  | .at1 => 7 | .at2 => 8 | .at3 => 9 | .at4 => 10 | .at5 => 11
  | .th1 b => ⟨12 + b.val, by omega⟩
  | .th2 b => ⟨16 + b.val, by omega⟩
  | .th3 => 20
  | .el1 b => ⟨21 + b.val, by omega⟩
  | .el2 b => ⟨25 + b.val, by omega⟩
  | .el3 b => ⟨29 + b.val, by omega⟩
  | .el4 b => ⟨33 + b.val, by omega⟩
  | .ln1 p => ⟨37 + p.val, by omega⟩
  | .ln2 => 49
  | .ac1 b => ⟨50 + b.val, by omega⟩
  | .ac2 b => ⟨54 + b.val, by omega⟩
  | .ac3 => 58 | .ac4 => 59 | .ac5 => 60
  | .ac6 b => ⟨61 + b.val, by omega⟩
  | .ac7 => 65

/-- The position of a row, 1 to 66, as requests and replies name it. -/
def rowPosition (r : Row) : Nat := (rowIndex r).val + 1

/-- The row at a position. -/
def rowAt (position : Nat) : Option Row := allRows.find? fun r => rowPosition r == position

/-- The class of a row (7.1). -/
def rowClass : Row → CauseClass
  | .fd1 | .fd2 | .fd3 | .fd4 | .fd5 | .fp1 | .fp2 => .fire
  | .at1 | .at2 | .at3 | .at4 | .at5 => .atmosphere
  | .th1 _ | .th2 _ | .th3 => .thermal
  | .el1 _ | .el2 _ | .el3 _ | .el4 _ => .electrical
  | .ln1 _ | .ln2 => .line
  | .ac1 _ | .ac2 _ | .ac3 | .ac4 | .ac5 | .ac6 _ | .ac7 => .account

/-- The latched rows (R127); the others are self-clearing (R126). -/
def latched : Row → Bool
  | .fp1 | .fp2 | .el3 _ | .ln1 _ | .ln2 | .ac2 _ | .ac5 | .ac6 _ => false
  | .fd1 | .fd2 | .fd3 | .fd4 | .fd5 | .at1 | .at2 | .at3 | .at4 | .at5 | .th1 _ | .th2 _ | .th3 | .el1 _ | .el2 _ | .el4 _
  | .ac1 _ | .ac3 | .ac4 | .ac7 => true

/-- The subject of a row is configured (R125). -/
def rowConfigured (s : State) : Row → Bool
  | .fd1 | .fd2 | .fd3 | .fd4 | .fp1 | .fp2 | .at1 | .at2 | .at3 | .at4 | .at5 | .ac3 | .ac4 | .ac7 => hasZone s
  | .th1 b | .th2 b | .el1 b | .el2 b | .el3 b | .el4 b | .ac1 b | .ac2 b | .ac6 b => bayConfigured s b
  | .ln1 p => peerConfigured s p
  | .fd5 | .th3 | .ln2 | .ac5 => true

/-- A row's fields. -/
def rowState (s : State) (r : Row) : RowState := s.causes.rows[rowIndex r]

/-- Changes a row's fields. -/
def updRow (s : State) (r : Row) (f : RowState → RowState) : State :=
  updCauses s fun c => { c with rows := c.rows.set (rowIndex r).val (f c.rows[rowIndex r]) (rowIndex r).isLt }

/-- The row is raised. -/
def raised (s : State) (r : Row) : Bool := (rowState s r).raised

/-- The row is raised and not inhibited, so that its reaction stands (R132). -/
def reacts (s : State) (r : Row) : Bool := (rowState s r).raised && (rowState s r).inhibit.isNone

/-- Some latched row is raised (R131). -/
def latchedRaised (s : State) : Bool := allRows.any fun r => latched r && raised s r

/-- The episode number after this one (R131). -/
def nextEpisode (e : BitVec 16) : BitVec 16 := if e = 0xFFFF#16 then 1 else e + 1

/-- Queues the TRIP that a raising of FD1 to FD4 or TH2[b] sends (R141). -/
def tripOnRaise (s : State) : Row → State
  | .fd1 | .fd2 | .fd3 | .fd4 => queueTrip s .fire (zoneSection s)
  | .th2 b => queueTrip s .thermal (baySection s b)
  | _ => s

/-- Raises a lowered row: onset, acknowledgement clear, episode and first-out mark, one entry in the trip log, the TRIP of the raising
(R126, R127, R131, R141, R143). -/
def raiseRow (s : State) (r : Row) : State :=
  let starts := latched r && !latchedRaised s
  let episode := if starts then nextEpisode s.causes.episode else s.causes.episode
  let own : BitVec 16 := if latched r then episode else 0
  let number := s.causes.nextEntry
  let entry : LogEntry := { number := number, episode := own, row := r, onset := nodeTime s, firstOut := starts, cleared := none }
  let log := s.causes.log ++ [entry]
  let s := updCauses s fun c =>
    { c with episode := episode, log := log.drop (log.length - Config.logSize), nextEntry := number + 1 }
  let s := updRow s r fun x =>
    { x with condition := true, raised := true, acked := false, firstOut := starts, episode := own, onset := some (nodeTime s)
             logEntry := some number }
  tripOnRaise s r

/-- The section set and originators of a remote row emptied at its lowering (R130). -/
def clearRemote (s : State) : Row → State
  | .fd5 => updCauses s fun c => { c with remoteFire := remoteReset }
  | .th3 => updCauses s fun c => { c with remoteThermal := remoteReset }
  | _ => s

/-- An entry of the log is the one that its row holds: the row's number, in an entry of that row. DEDUCED: a newer entry of another row
that carries the number again, after 65,536 raisings, is not it (R143, R144; log 42). -/
def isOwnEntry (s : State) (r : Row) (e : LogEntry) : Bool := decide (e.row = r ∧ (rowState s r).logEntry = some e.number)

/-- Fills the cleared time of the row's own log entry where it is still held (R144; log 42). -/
def closeEntry (s : State) (r : Row) : State :=
  updCauses s fun c =>
    { c with log := c.log.map fun e => if isOwnEntry s r e then { e with cleared := some (nodeTime s) } else e }

/-- Lowers a raised row (R126, R130). -/
def lowerRow (s : State) (r : Row) : State :=
  let s := closeEntry s r
  let s := updRow s r fun x =>
    { x with condition := false, raised := false, acked := false, firstOut := false, episode := 0, onset := none, logEntry := none }
  clearRemote s r

/-- A condition handed to the table (R126, R127). -/
def handCondition (s : State) (r : Row) (cond : Bool) : State :=
  if cond then
    if raised s r then updRow s r fun x => { x with condition := true, acked := x.acked && !latched r } else raiseRow s r
  else if latched r then updRow s r fun x => { x with condition := false }
  else lowerRow s r

/-- A condition that is an event: true at the event and false immediately after (R128). -/
def pulseRow (s : State) (r : Row) : State :=
  if raised s r then updRow s r fun x => { x with acked := false, condition := false }
  else updRow (raiseRow s r) r fun x => { x with condition := false }

/-- The latched row of lowest position that is raised. -/
def lowestLatched (s : State) : Option Row := allRows.find? fun r => latched r && raised s r

/-- The first-out mark of an event that raised rows one after another: with no latched row raised before the event, the mark goes to the
one of lowest position that the event raised, and the entries of the rows show it (R131; log 35). -/
def markFirstOut (before s : State) : State :=
  if latchedRaised before then s
  else
    match lowestLatched s with
    | none => s
    | some q =>
      updCauses s fun c =>
        { c with
          rows := c.rows.mapIdx fun i x => { x with firstOut := decide (i = (rowIndex q).val) }
          log := c.log.map fun e =>
            if isOwnEntry s e.row e then { e with firstOut := decide (e.row = q) } else e }

/-! ### Leading cause -/

/-- The classes in the order in which they lead: FIRE, then the configured ranking (R136). -/
def classOrder (s : State) : List CauseClass := .fire :: (cfg s).ranking.toList

/-- The raised, uninhibited row of the highest ranked class, and of lowest position in it (R136). -/
def leadingCause (s : State) : Option Row :=
  (classOrder s).findSome? fun c => allRows.find? fun r => decide (rowClass r = c) && reacts s r

/-- The bit of a class among the raised classes of a STATUS (10.1). -/
def classBit : CauseClass → BitVec 6
  | .fire => 1 | .atmosphere => 2 | .thermal => 4 | .electrical => 8 | .line => 16 | .account => 32

/-- The classes that have at least one raised row (R137). -/
def raisedClasses (s : State) : BitVec 6 :=
  allRows.foldl (fun acc r => if raised s r then acc ||| classBit (rowClass r) else acc) 0

/-- The FIRE sections of a STATUS: the own zone's section while any of FD1 to FD4 is raised (R137). -/
def fireSections (s : State) : Sections :=
  if raised s .fd1 || raised s .fd2 || raised s .fd3 || raised s .fd4 then zoneSection s else 0

/-- The THERMAL sections of a STATUS: the section of each bay whose TH2 row is raised (R137). -/
def thermalSections (s : State) : Sections :=
  allBays.foldl (fun acc b => if raised s (.th2 b) then acc ||| baySection s b else acc) 0

/-- The rows inhibited now (R139). -/
def inhibitedRows (s : State) : List Row := allRows.filter fun r => (rowState s r).inhibit.isSome

/-- The rows raised now. -/
def raisedRows (s : State) : List Row := allRows.filter (raised s)

end Sys2Proof.Machine
end

