-- ==== Sys2Proof/Machine/Operands.lean ====
section
/-! DEFINITION. What a command's operands are tested for before its effect: the header of a received frame (R183, R184), pack IDs, bay,
row and position arguments, and the intake of requests (R190). -/

namespace Sys2Proof.Machine

/-! ### Headers of received frames -/

/-- The header passes the tests on line ID, sender and destination (R183). -/
def headerHeard (s : State) (h : Header) : Bool :=
  decide (h.line = s.loader.lineId) && decide (h.sender ≠ 0 ∧ h.sender ≠ 63 ∧ h.sender ≠ s.loader.address) &&
    decide (h.dest = s.loader.address ∨ h.dest = broadcast)

/-- A frame for every station reaches its block (R183, R184): in service, heard, addressed to 63. -/
def heardBroadcast (s : State) (h : Header) : Bool := inService s && headerHeard s h && decide (h.dest = broadcast)

/-- A frame for one station reaches its block (R183, R184): in service, heard, addressed to this node and to no other. -/
def heardOwn (s : State) (h : Header) : Bool :=
  inService s && headerHeard s h && decide (h.dest = s.loader.address ∧ h.dest ≠ broadcast)

/-! ### Arguments -/

/-- A pack ID of 1 to 12 characters with codes 32 to 126 (R51). -/
def packIdOk (id : PackId) : Bool :=
  decide (1 ≤ id.length ∧ id.length ≤ 12) && id.all fun c => decide (32 ≤ c.toNat ∧ c.toNat ≤ 126)

/-- The pack ID length of a handover frame lies inside its coding (R183). -/
def packIdLengthOk (id : PackId) : Bool := decide (1 ≤ id.length ∧ id.length ≤ 12)

/-- The configured bay an argument names (R24). -/
def bayArg (s : State) (bay : Byte) : Option BayIdx :=
  if h : bay.toNat < 4 then if bay.toNat < (cfg s).bayCount then some ⟨bay.toNat, h⟩ else none else none

/-- The class an ACK scope names: `none` for all; no answer for a number that names no class (10.1, R129). -/
def ackScope (scope : Byte) : Option (Option CauseClass) :=
  match scope.toNat with
  | 0 => some none
  | 1 => some (some .fire)
  | 2 => some (some .atmosphere)
  | 3 => some (some .thermal)
  | 4 => some (some .electrical)
  | 5 => some (some .line)
  | 6 => some (some .account)
  | _ => none

/-! ### Request intake -/

/-- What a request does and answers: its result, the items of its REPLY, and the state it leaves. -/
structure Answer where
  result : ResultCode
  payload : ReplyPayload
  state : State

/-- A refusal: its code, no items, nothing changed (R189, R191). -/
def refuse (s : State) (c : ResultCode) : Answer := { result := c, payload := .none, state := s }

/-- DONE with no items. -/
def done (s : State) : Answer := { result := .done, payload := .none, state := s }

/-- The sender is in the terminal set (R190). -/
def isTerminal (s : State) (a : Addr) : Bool := decide (a.toNat ∈ (cfg s).terminals)

/-- The REPLY FIFO has room (R190). -/
def replyFree (s : State) : Bool := decide (s.bus.replies.length < Config.replySize)

/-- The REPLY that answers a request (R181, R190). -/
def replyTo (h : Header) (kind : Byte) (result : ResultCode) (payload : ReplyPayload) : Reply :=
  { dest := h.sender, kind := kind, seq := h.seq, result := result, payload := payload }

/-- Request intake (R190, R192): a request that reaches it is answered NOT_TERMINAL, discarded on a full REPLY FIFO, or executed with one
REPLY queued. -/
def takeRequest (s : State) (h : Header) (kind : Byte) (execute : State → Answer) : State :=
  if heardOwn s h then
    if isTerminal s h.sender then
      if replyFree s then
        let a := execute s
        queueReply a.state (replyTo h kind a.result a.payload)
      else s
    else if replyFree s then queueReply s (replyTo h kind .notTerminal .none) else s
  else s

end Sys2Proof.Machine
end

