-- ==== Sys2Proof/Machine/Permits.lean ====
section
/-! DEFINITION. What the blocks read of each other: hold sets (R37, R100), the zone's accepting and free slots (R86), literals
(R156, R157), the eleven permits (R149 to R155) and the dwell timers' transitions (R158 to R163). -/

namespace Sys2Proof.Machine

/-! ### Hold sets -/

/-- A row is a holding row of bay b (R37). -/
def holdsBay (s : State) (b : BayIdx) : Row → Bool
  | .th1 c | .el1 c | .el2 c | .el4 c => decide (c = b)
  | .th2 c => decide (c = b) || (bayConfigured s c && decide (baySection s c = baySection s b))
  | .fd1 | .fd2 | .fd3 | .fd4 => hasZone s && decide (zoneSection s = baySection s b)
  | .fd5 => s.causes.remoteFire.sections &&& baySection s b != 0
  | .th3 => s.causes.remoteThermal.sections &&& baySection s b != 0
  | _ => false

/-- The holding rows in the hold set of bay b: raised and not inhibited (R37). -/
def holdRows (s : State) (b : BayIdx) : List Row := allRows.filter fun r => holdsBay s b r && reacts s r

/-- A holding row of bay b is in its hold set. -/
def held (s : State) (b : BayIdx) : Bool := allRows.any fun r => holdsBay s b r && reacts s r

/-- The zone hold set is not empty (R100). -/
def zoneHeld (s : State) : Bool :=
  reacts s .at1 || reacts s .at3 || reacts s .at4 || reacts s .at5 ||
    (reacts s .fd5 && s.causes.remoteFire.sections &&& zoneSection s != 0)

/-- Any of FD1 to FD4 is raised (R102, R103). -/
def fireRaised (s : State) : Bool := raised s .fd1 || raised s .fd2 || raised s .fd3 || raised s .fd4

/-! ### Zone as its readers see it -/

/-- The zone is READY or RUNNING, on a node with a zone (R80, R156). -/
def zoneReadyOrRunning (s : State) : Bool := hasZone s && decide (s.zone.state = .ready ∨ s.zone.state = .running)

/-- The zone is accepting (R86). -/
def accepting (s : State) : Bool := zoneReadyOrRunning s && !reacts s .ac3

/-- The free slots of the zone (R86). -/
def freeSlots (s : State) : Nat := if hasZone s then Config.queueSize - placesTaken s else 0

/-- The zone's state age in 100 ms counts, saturating (R92). -/
def zoneAge (s : State) : Nat := min 65535 ((nodeCount s - s.zone.since) / 10)

/-! ### Literals -/

/-- The fact a peer literal reads in the recorded data (R157). -/
def peerFact (s : State) (k : LiteralKind) (r : StatusPayload) : Bool :=
  match k with
  | .peerFresh => true
  | .peerZoneReady => r.zonePresent && decide (r.zoneState = .ready ∨ r.zoneState = .running)
  | .peerZoneRunning => r.zonePresent && decide (r.zoneState = .running)
  | .peerAccepting => r.accepting
  | .peerTripFree => (r.fireSections ||| r.thermalSections) &&& ownSections s == 0
  | .peerLockout => r.lockout
  | .general | .dwell | .zoneReady | .zoneRunning | .bayDischarging | .baySafe => false

/-- A peer literal: false whatever its polarity while the entry is not FRESH (R157). -/
def peerLiteral (s : State) (k : LiteralKind) (p : Nat) (positive : Bool) : Bool :=
  match s.peers[p]? with
  | some e =>
    match e.reported with
    | some r => decide (e.state = .fresh) && (peerFact s k r == positive)
    | none => false
  | none => false

/-- The state of bay n is one of two (R156). -/
def bayStateIs (s : State) (n : Nat) (x y : BayState) : Bool :=
  match s.bays[n]? with
  | some b => decide (b.state = x ∨ b.state = y)
  | none => false

/-- The value of a literal, with the dwell timers as given (R155 to R157). -/
def literalHolds (s : State) (timers : Vector Timer 16) (l : Literal) : Bool :=
  let n := l.index.getD 0
  match l.kind with
  | none => false
  | some .general => ((s.zmeas.g[n]?).map Comparator.filtered).getD false == l.positive
  | some .dwell => ((timers[n]?).map fun t => decide (t.state = .done)).getD false == l.positive
  | some .zoneReady => zoneReadyOrRunning s == l.positive
  | some .zoneRunning => (hasZone s && decide (s.zone.state = .running)) == l.positive
  | some .bayDischarging => bayStateIs s n .discharging .discharging == l.positive
  | some .baySafe => bayStateIs s n .safe .offering == l.positive
  | some k => peerLiteral s k n l.positive

/-! ### Permits -/

/-- The site terms of a permit (R155). -/
def termsOf (s : State) (p : Permit) : List SiteTerm := (cfg s).siteTerms.filter fun t => decide (t.permit = some p)

/-- The site condition of a permit: the OR of its terms, absent when it has none (R149, R155). -/
def siteCondition (s : State) (p : Permit) : Bool :=
  let ts := termsOf s p
  ts.isEmpty || ts.any fun t => t.literals.all (literalHolds s s.timers)

/-- The channel is neither INVALID nor in NO_SAMPLE (R4). -/
def channelUsable (c : Channel) : Bool := decide (c.status = .valid ∨ c.status = .held)

/-- CONNECT[b] (R150). -/
def connectPermit (s : State) (b : BayIdx) : Bool :=
  inService s && bayConfigured s b && !held s b && channelUsable s.meas[b].v && channelUsable s.meas[b].i &&
    siteCondition s (.connect b)

/-- The destination term of RELEASE[b] (R151). -/
def destinationOpen (s : State) (b : BayIdx) : Bool :=
  if bayDest s b = s.loader.address then accepting s && decide (0 < freeSlots s)
  else
    match watchIndex s (bayDest s b) with
    | none => false
    | some p =>
      match s.peers[p].reported with
      | some r => decide (s.peers[p].state = .fresh) && r.accepting && decide (0 < r.freeSlots.val)
      | none => false

/-- RELEASE[b] (R151). -/
def releasePermit (s : State) (b : BayIdx) : Bool :=
  inService s && bayConfigured s b && decide (s.bays[b].state = .safe ∨ s.bays[b].state = .offering) && !raised s (.el4 b) &&
    !(raised s .fd5 && s.causes.remoteFire.sections &&& baySection s b != 0) &&
    !(raised s .th3 && s.causes.remoteThermal.sections &&& baySection s b != 0) && destinationOpen s b &&
    siteCondition s (.release b)

/-- PURGE (R152). -/
def purgePermit (s : State) : Bool :=
  inService s && hasZone s && s.zmeas.dc.filtered && decide (s.zone.state ≠ .fire ∧ s.zone.state ≠ .lockout) &&
    siteCondition s .purge

/-- The head slot is WAITING and no slot is FEEDING (R153). -/
def headWaiting (s : State) : Bool :=
  match s.zone.queue with
  | [] => false
  | id :: rest => decide (slotStage s id = some .waiting) && rest.all fun x => decide (slotStage s x ≠ some .feeding)

/-- FEED (R153). -/
def feedPermit (s : State) : Bool :=
  inService s && hasZone s && decide (s.zone.state = .running) && !raised s .fp1 && !raised s .fp2 && !reacts s .ac3 &&
    !reacts s .ac7 && headWaiting s && siteCondition s .feed

/-- A latched row of the FIRE or ATMOSPHERE class is raised, inhibited or not: FD1 to FD5, AT1 to AT5 (R154). -/
def chamberTripped (s : State) : Bool :=
  fireRaised s || raised s .fd5 || raised s .at1 || raised s .at2 || raised s .at3 || raised s .at4 || raised s .at5

/-- RUN (R154). -/
def runPermit (s : State) : Bool :=
  inService s && zoneReadyOrRunning s && s.zmeas.dc.filtered && !s.zmeas.coWarn.filtered && !chamberTripped s &&
    siteCondition s .run

/-- "Permit lost" is in the hold set of bay b (R38). -/
def permitLost (s : State) (b : BayIdx) : Bool :=
  decide (s.bays[b].state = .connecting ∨ s.bays[b].state = .discharging ∨
    (s.bays[b].state = .held ∧ s.bays[b].ret = some .connecting)) && !connectPermit s b

/-! ### Dwell timers -/

/-- The definition is that of a credited timer (R159). -/
def credited (t : TimerDef) : Bool :=
  t.input.positive && decide (t.input.kind = some .peerZoneReady ∨ t.input.kind = some .peerZoneRunning)

/-- The zone age last reported by the peer that a literal reads. -/
def peerAge (s : State) (l : Literal) : Nat :=
  (((s.peers[l.index.getD 0]?).bind Peer.reported).map fun r => r.zoneAge.toNat).getD 0

/-- A timer after its input has its value: IDLE on false; out of IDLE on true, a credited timer seeded from the peer's zone age
(R160, R163). -/
def timerAfter (s : State) (t : TimerDef) (input : Bool) (x : Timer) : Timer :=
  if input then
    if x.state = .idle then
      let e := if credited t then min t.preset (peerAge s t.input) else 0
      { state := if e = t.preset then .done else .timing, elapsed := e, stepFrom := nodeCount s }
    else x
  else timerReset

/-- One pass over the defined timers, each judged on the done flags as they stand when it is reached (R158, R162). -/
def timerPass (s : State) (defs : List TimerDef) (timers : Vector Timer 16) : Vector Timer 16 :=
  defs.foldl
    (fun ts t => if h : t.number < 16 then ts.set t.number (timerAfter s t (literalHolds s ts t.input) ts[t.number]) h else ts) timers

/-- Passes repeated, so that a change reaches the end of a chain of timers (R158). -/
def timerPasses (s : State) (defs : List TimerDef) : Nat → Vector Timer 16 → Vector Timer 16
  | 0, ts => ts
  | n + 1, ts => timerPasses s defs n (timerPass s defs ts)

/-- The dwell timers as an event leaves them, from the timers before it and the facts after it (R158, R160). -/
def timersAfter (s : State) (before : Vector Timer 16) : Vector Timer 16 :=
  timerPasses s (cfg s).timers ((cfg s).timers.length + 1) before

end Sys2Proof.Machine
end

