-- ==== Sys2Proof/Machine/BayOps.lean ====
section
/-! DEFINITION. The transitions of the bay controllers (02) and the handover engine's source half (4.2), which share one bay's state:
contactor, hold, rest, rebound, quarantine, removal, release, offers. -/

namespace Sys2Proof.Machine

/-! ### Contactor (2.3) -/

/-- The contactor coil KC of bay b is on: CONNECTING and DISCHARGING only (R25). -/
def coilOn (s : State) (b : BayIdx) : Bool := decide (s.bays[b].state = .connecting ∨ s.bays[b].state = .discharging)

/-- Filtered KF[b]: the contactor reads closed. -/
def contactClosed (s : State) (b : BayIdx) : Bool := s.meas[b].kf.filtered

/-- KC goes off if it is on: the opening window begins, and the EL4 condition ends when the contact already reads open (R31, R32). -/
def coilOff (s : State) (b : BayIdx) : State :=
  if coilOn s b then
    updBay s b fun x =>
      { x with window := .opening (s.now + Config.contactorWindow), mismatch := x.mismatch && contactClosed s b }
  else s

/-! ### Leaving an offer or a release -/

/-- The offer of bay b is abandoned: the entry goes to NONE and a queued OFFER leaves the FIFO unsent (R73). -/
def abandonOffer (s : State) (b : BayIdx) : State := dropOffer (updHandover s b fun x => { x with entry := .none }) b

/-- The offer of an OFFERING bay is abandoned (R28, R39, R41, R42). -/
def abandonIfOffering (s : State) (b : BayIdx) : State :=
  if s.bays[b].state = .offering then abandonOffer s b else s

/-- The reservation behind a RELEASING bay is released: WITHDRAW to another station, the internal claim ended for the own zone, and the
record's destination and deadline cleared (R77). -/
def releaseReservation (s : State) (b : BayIdx) : State :=
  match recordOfBay s b with
  | none => s
  | some r =>
    let s :=
      match r.dest, r.id with
      | some d, some id =>
        if d = s.loader.address then updHandover s b fun x => { x with claim := false } else queueHandover s d (.withdraw id)
      | _, _ => s
    updRecordOfBay s b fun r => { r with dest := none, deadline := none }

/-! ### Quarantine (2.7) -/

/-- Entry to QUARANTINE, whatever the path: KC off, RG cut off, timers and return state dropped, an offer abandoned, a reservation
released, the reason recorded (R41, R42, 2.7). -/
def enterQuarantine (s : State) (b : BayIdx) (reason : QuarantineReason) : State :=
  let s := coilOff s b
  let s := abandonIfOffering s b
  let s := if s.bays[b].state = .releasing then releaseReservation s b else s
  updBay s b fun x =>
    { x with state := .quarantine, ret := none, restUntil := none, backoffUntil := none, rgUntil := none, reason := some reason }

/-- The states of a bay that holds a record, QUARANTINE apart (R41, R42). -/
def holdsPack (s : State) (b : BayIdx) : Bool :=
  decide (s.bays[b].state ≠ .empty ∧ s.bays[b].state ≠ .loaded ∧ s.bays[b].state ≠ .quarantine)

/-- TH2[b] is raised (R41). -/
def thermalQuarantine (s : State) (b : BayIdx) : State :=
  let mark (s : State) : State := updRecordOfBay s b fun r => { r with thermal := true }
  if holdsPack s b then enterQuarantine (mark s) b .thermal
  else if s.bays[b].state = .quarantine then mark s else s

/-! ### Connecting, resting, rebounding, holding -/

/-- Entry to CONNECTING: KC on with a closing window in place of any window; the EL4 condition ends when the contact already reads closed
(R30, R32, R33). -/
def enterConnecting (s : State) (b : BayIdx) : State :=
  updBay s b fun x =>
    { x with state := .connecting, ret := none, window := .closing (s.now + Config.contactorWindow), endArmed := false
             restUntil := none, backoffUntil := none, mismatch := x.mismatch && !contactClosed s b }

/-- Entry to HELD with a return state (R38, R39). -/
def enterHeld (s : State) (b : BayIdx) (ret : ReturnState) : State :=
  updBay (coilOff s b) b fun x => { x with state := .held, ret := some ret, restUntil := none, backoffUntil := none }

/-- A verification is lost: an offer out is abandoned and the rest-passed mark cleared (R39, R44). -/
def loseVerification (s : State) (b : BayIdx) : State :=
  let s := abandonIfOffering s b
  updRecordOfBay s b fun r => { r with restPassed := false }

/-- A rebound, handled by the record's count against the configured maximum (R35, R44). -/
def rebound (s : State) (b : BayIdx) : State :=
  let n := ((recordOfBay s b).map PackRecord.rebounds).getD 0
  if n < (cfg s).maxRebounds then
    let s := updRecordOfBay s b fun r => { r with rebounds := r.rebounds + 1 }
    if connectPermit s b then enterConnecting s b else enterHeld s b .connecting
  else enterQuarantine s b .rebound

/-- Entry to RESTING: the rest timer starts at the full interval, and a rebound found at the entry is handled at once (R33, R34). -/
def enterResting (s : State) (b : BayIdx) : State :=
  let s := updBay (coilOff s b) b fun x =>
    { x with state := .resting, ret := none, restUntil := some (s.now + (cfg s).restInterval * Config.second) }
  if s.meas[b].cvRel.filtered then rebound s b else s

/-- Filtered CI_end[b] false arms the end of discharge (R33). -/
def armEnd (s : State) (b : BayIdx) : State :=
  if s.bays[b].state = .discharging ∧ s.meas[b].ciEnd.filtered = false then updBay s b fun x => { x with endArmed := true } else s

/-- The end condition is met (R33). -/
def endMet (s : State) (b : BayIdx) : Bool :=
  s.meas[b].cvEnd.filtered || (s.meas[b].ciEnd.filtered && s.bays[b].endArmed)

/-- Entry to DISCHARGING, with the end condition tested at the entry (R30, R33). -/
def enterDischarging (s : State) (b : BayIdx) : State :=
  let s := armEnd (updBay s b fun x => { x with state := .discharging, window := .none, endArmed := false }) b
  if endMet s b then enterResting s b else s

/-- The bay gives way to a hold (R39); in a state that is not a working one nothing changes. -/
def holdBay (s : State) (b : BayIdx) : State :=
  match s.bays[b].state with
  | .connecting | .discharging => enterHeld s b .connecting
  | .resting => enterHeld s b .resting
  | .safe | .offering => enterHeld (loseVerification s b) b .safeRecheck
  | .empty | .loaded | .admitted | .held | .releasing | .quarantine => s

/-- A late rebound in SAFE or OFFERING (R44). -/
def lateRebound (s : State) (b : BayIdx) : State := rebound (loseVerification s b) b

/-- The reaction of a working bay's own that may meet a hold at one moment (R30, R33, R34), if it stands. -/
def ownReaction (s : State) (b : BayIdx) : Option State :=
  match s.bays[b].state with
  | .connecting => if contactClosed s b then some (enterDischarging s b) else none
  | .discharging => if endMet s b then some (enterResting s b) else none
  | .resting => if s.meas[b].cvRel.filtered then some (rebound s b) else none
  | .empty | .loaded | .admitted | .held | .safe | .offering | .releasing | .quarantine => none

/-- A hold meets a bay: with a reaction of its own due at the same moment, either is taken first (R33; log 7). DESIGN CHOICE: a rebound in
RESTING that comes first reads CONNECT[b] with the holding row raised already (R35; log 41). -/
def holdOrReact (s : State) (b : BayIdx) : State :=
  match ownReaction s b with
  | none => holdBay s b
  | some _ =>
    let (own, s) := takeChoice s
    if own then
      match ownReaction s b with
      | some t => if held t b then holdBay t b else t
      | none => holdBay s b
    else holdBay s b

/-- A working state, in which a non-empty hold set makes the bay HELD (2.6, R39). -/
def workingState (s : State) (b : BayIdx) : Bool :=
  decide (s.bays[b].state = .connecting ∨ s.bays[b].state = .discharging ∨ s.bays[b].state = .resting ∨
    s.bays[b].state = .safe ∨ s.bays[b].state = .offering)

/-- A working bay whose hold set has a row gives way (R39). -/
def obeyBay (s : State) (b : BayIdx) : State := if workingState s b && held s b then holdOrReact s b else s

/-! ### The pack leaves (R28, R46) -/

/-- The bay goes to EMPTY as its record leaves: thresholds released, timers and return state dropped (R12, R28, R46). -/
def emptyBay (s : State) (b : BayIdx) : State :=
  updMeas
    (updBay s b fun x =>
      { x with state := .empty, ret := none, restUntil := none, backoffUntil := none, endArmed := false, reason := none
               foundAtStart := false })
    b fun m => { m with thresholds := none }

/-- Edis of the pack in bay b goes into the discharged-energy total (R62). -/
def countEnergyOfBay (s : State) (b : BayIdx) : State := addDischarged s (((recordOfBay s b).map PackRecord.edis).getD 0)

/-- Unexpected removal (R28, R56). -/
def removePack (s : State) (b : BayIdx) : State :=
  let s := countEnergyOfBay (abandonIfOffering (coilOff s b) b) b
  let s := updRecordOfBay s b fun r => { toStage s .missing r with acc := none, deadline := none }
  updBay (emptyBay s b) b fun x => { x with removed := true }

/-- The pack leaves a RELEASING bay (R46, R55, R87). -/
def packLeaves (s : State) (b : BayIdx) : State :=
  let s := countEnergyOfBay s b
  let internal := ((recordOfBay s b).bind PackRecord.dest) == some s.loader.address
  let id := (recordOfBay s b).bind PackRecord.id
  let s := updRecordOfBay s b fun r =>
    { toStage s .inTransit r with acc := none, origin := if internal then some s.loader.address else r.origin }
  let s :=
    match id with
    | some id =>
      if internal then
        updZone (updHandover s b fun x => { x with claim := false }) fun z => { z with queue := z.queue ++ [id] }
      else s
    | none => s
  emptyBay s b

/-- Filtered PP[b] falling, in whatever state the bay is (R26, R28, R43, R46). -/
def packGone (s : State) (b : BayIdx) : State :=
  match s.bays[b].state with
  | .empty | .quarantine => s
  | .loaded => updBay s b fun x => { x with state := .empty, foundAtStart := false }
  | .admitted | .connecting | .discharging | .resting | .held | .safe | .offering => removePack s b
  | .releasing => packLeaves s b

/-- Filtered PP[b] rising: a pack without a record is sensed (R26). It ends the condition of AC1[b] (R28). -/
def packSensed (s : State) (b : BayIdx) : State :=
  if s.bays[b].state = .empty then updBay s b fun x => { x with state := .loaded, removed := false } else s

/-- The presence check after a reset (R47, R48). -/
def presenceCheck (s : State) (b : BayIdx) : State :=
  let s := updBay s b fun x => { x with presencePending := false }
  if s.meas[b].pp.filtered then
    let s := packSensed s b
    if s.bays[b].state = .loaded then updBay s b fun x => { x with foundAtStart := true } else s
  else packGone s b

/-! ### Release (2.8, 4.2) -/

/-- The bay returns to SAFE with its backoff started (R45, R46). -/
def backToSafe (s : State) (b : BayIdx) : State :=
  updBay s b fun x => { x with state := .safe, backoffUntil := some (s.now + (cfg s).offerBackoff * Config.second) }

/-- An acceptance taken: RELEASING, RG pulsed, the destination and the transit deadline in the record (R45, R72). -/
def enterReleasing (s : State) (b : BayIdx) (dest : Addr) : State :=
  let s := updRecordOfBay s b fun r =>
    { r with dest := some dest, deadline := some (nodeCount s + (cfg s).transitLimit * 100) }
  updBay s b fun x => { x with state := .releasing, backoffUntil := none, rgUntil := some (s.now + Config.pulse) }

/-- The fraction test: absent Edecl gives no result, and the bay goes on (R17, R36). -/
def fractionPasses (s : State) (r : PackRecord) : Bool :=
  match r.edecl with
  | some e => decide (r.edis * 100 ≥ (e : Int) * ((cfg s).pmin : Int))
  | none => true

/-- The release test: an absent Residual gives no result, and the bay goes on (R17, R36, R44). -/
def releaseTestPasses (s : State) (r : PackRecord) : Bool :=
  match r.residual with
  | some e => decide (e ≤ (cfg s).releaseLimit)
  | none => true

/-- Why the own zone declines an OFFER before its pack is looked at: checks 1 to 3 of R80. -/
def zoneDeclines (s : State) : Option DeclineReason :=
  if !zoneReadyOrRunning s then some .state
  else if reacts s .ac3 then some .blocked
  else if Config.queueSize ≤ placesTaken s then some .full
  else none

/-- Checks 6 and 7 of R80, on the Residual that is judged and the degraded mark. -/
def packDeclines (s : State) (residual : Option Nat) (degraded : Bool) : Option DeclineReason :=
  match zoneCfg s with
  | none => some .state
  | some z =>
    if !(match residual with | some r => decide (r ≤ z.acceptLimit) | none => z.acceptUndeclared) then some .residual
    else if degraded && !z.acceptDegraded then some .degraded
    else none

/-- An internal offer, judged at once (R85). -/
def internalOffer (s : State) (b : BayIdx) (r : PackRecord) : State :=
  match (zoneDeclines s).or (packDeclines s r.residual r.degraded) with
  | none => enterReleasing (updHandover s b fun x => { x with claim := true }) b s.loader.address
  | some reason => updHandover (backToSafe s b) b fun x => { x with lastDecline := some reason }

/-- The OFFER built from the record in a bay (R70). -/
def offerOfRecord (s : State) (b : BayIdx) (r : PackRecord) : OfferPayload :=
  { id := r.id.getD [], cls := BitVec.ofNat 8 ((r.cls.map Fin.val).getD 0), cells := BitVec.ofNat 8 (r.cells.getD 0)
    edecl := r.edecl.map (BitVec.ofNat 24), qdis := BitVec.ofInt 32 r.qdis, edis := BitVec.ofInt 32 r.edis
    residual := r.residual.map (BitVec.ofNat 24), degraded := r.degraded, restPassed := r.restPassed
    originBay := BitVec.ofNat 8 b.val, dest := bayDest s b }

/-- A SAFE bay offers its pack when the four conditions of R44 hold together (R44, R70). -/
def offerIfReady (s : State) (b : BayIdx) : Option State :=
  match recordOfBay s b with
  | none => none
  | some r =>
    let internal := bayDest s b = s.loader.address
    if releasePermit s b ∧ s.bays[b].backoffUntil = none ∧ releaseTestPasses s r ∧ (internal ∨ handoverFree s) then
      if internal then some (internalOffer s b r)
      else
        let s' := queueHandover s (bayDest s b) (.offer (offerOfRecord s b r))
        let s' := updHandover s' b fun x => { x with entry := .queued (r.id.getD []) (bayDest s b) s.now }
        some (updBay s' b fun x => { x with state := .offering })
    else none

/-! ### The bay's reactions at an event -/

/-- The next reaction of bay b that stands: a change of the contact, the end of the discharge, a rebound, a permit lost or regained, the
end of a hold, an offer (R30, R33 to R35, R38, R40, R44). -/
def bayReact (s : State) (b : BayIdx) : Option State :=
  match s.bays[b].state with
  | .connecting | .discharging => if permitLost s b then some (holdOrReact s b) else ownReaction s b
  | .resting => ownReaction s b
  | .held =>
    if held s b then none
    else
      match s.bays[b].ret with
      | some .connecting => if connectPermit s b then some (enterConnecting s b) else none
      | some .resting | some .safeRecheck => some (enterResting s b)
      | none => none
  | .safe => offerIfReady s b
  | .empty | .loaded | .admitted | .offering | .releasing | .quarantine => none

end Sys2Proof.Machine
end

