-- ==== Sys2Proof/Machine/ZoneOps.lean ====
section
/-! DEFINITION. The zone controller's transitions, outputs and infeed queue (05). -/

namespace Sys2Proof.Machine

/-! ### Transitions -/

/-- The zone takes a state: the age starts again at a change, and a running FP pulse is cut off outside RUNNING (R91, R92). -/
def setZone (s : State) (st : ZoneState) : State :=
  updZone s fun z =>
    { z with state := st, since := if z.state = st then z.since else nodeCount s, fpUntil := if st = .running then z.fpUntil else none }

/-- Purge and settle stopped, top-up closed (R96, R100, R102). -/
def stopAtmosphere (s : State) : State := updZone s fun z => { z with purgeUntil := none, settleUntil := none, topUp := false }

/-- Entry to AIR, all valves closed and timers stopped (R94, R103, R105). -/
def enterAir (s : State) : State := updZone (stopAtmosphere (setZone s .air)) fun z => { z with floodUntil := none }

/-- Entry to PURGING: the purge timer at the full limit (R94). -/
def enterPurging (s : State) : State :=
  updZone (stopAtmosphere (setZone s .purging)) fun z =>
    { z with purgeUntil := (zoneCfg s).map fun c => s.now + c.purgeLimit * Config.second }

/-- Entry to INERT: the settle timer at the full time, the top-up as CO_top stands (R95). -/
def enterInert (s : State) : State :=
  updZone (stopAtmosphere (setZone s .inert)) fun z =>
    { z with settleUntil := (zoneCfg s).map fun c => s.now + c.settle * Config.second, topUp := s.zmeas.coTop.filtered }

/-- Entry to READY, the top-up as it stands (R95, R96, R98). -/
def enterReady (s : State) : State := updZone (setZone s .ready) fun z => { z with settleUntil := none }

/-- Entry to RUNNING (R98). -/
def enterRunning (s : State) : State := setZone s .running

/-- Entry to ALARM (R100). -/
def enterAlarm (s : State) : State := stopAtmosphere (setZone s .alarm)

/-- A raising of FD1 to FD4: FIRE with the flood timer at the full time; a restart of the timer in FIRE; nothing in LOCKOUT
(R102, R104). -/
def enterFire (s : State) : State :=
  if hasZone s ∧ s.zone.state ≠ .lockout then
    updZone (stopAtmosphere (setZone s .fire)) fun z =>
      { z with floodUntil := (zoneCfg s).map fun c => s.now + c.flood * Config.second }
  else s

/-- Entry to LOCKOUT (R103, R104). -/
def enterLockout (s : State) : State := updZone (stopAtmosphere (setZone s .lockout)) fun z => { z with floodUntil := none }

/-- The zone leaves FIRE: to LOCKOUT when lockout-on-fire is configured, else to AIR (R103). -/
def leaveFire (s : State) : State :=
  if ((zoneCfg s).map ZoneConfig.lockoutOnFire).getD false then enterLockout s else enterAir s

/-- A state in which a non-empty zone hold set makes the zone go to ALARM (R100). -/
def zoneWorking (s : State) : Bool :=
  decide (s.zone.state = .purging ∨ s.zone.state = .inert ∨ s.zone.state = .ready ∨ s.zone.state = .running)

/-- The zone gives way to the rows of the cause table: ALARM at a non-empty hold set, and READY from RUNNING at any other latched FIRE or
ATMOSPHERE row (R98 to R100). -/
def obeyZone (s : State) : State :=
  if zoneWorking s && zoneHeld s then enterAlarm s
  else if decide (s.zone.state = .running) && chamberTripped s then enterReady s
  else s

/-- The next reaction of the zone that stands: out of FIRE, the crossings of CO_inert, a fall of RUN, out of ALARM
(R94, R95, R99, R101, R103). A zone that was in FIRE at a warm reset leaves it neither in the reset nor before the re-formation interval
has ended (R122; log 38). -/
def zoneReact (s : State) : Option State :=
  if !hasZone s then none
  else
    match s.zone.state with
    | .fire =>
      if s.zone.floodUntil = none ∧ fireRaised s = false ∧ s.fire.zoneKept = false then some (leaveFire s) else none
    | .purging => if s.zmeas.coInert.filtered then some (enterInert s) else none
    | .inert => if s.zmeas.coInert.filtered then none else some (enterPurging s)
    | .running => if runPermit s then none else some (enterReady s)
    | .alarm => if !zoneHeld s && purgePermit s then some (enterPurging s) else none
    | .air | .ready | .lockout => none

/-! ### Outputs (R25, R91) -/

/-- Shredder run SR. -/
def outSR (s : State) : Bool := hasZone s && decide (s.zone.state = .running)

/-- Flood valve FV. -/
def outFV (s : State) : Bool := hasZone s && decide (s.zone.state = .fire)

/-- Purge valve PV. -/
def outPV (s : State) : Bool :=
  hasZone s &&
    match s.zone.state with
    | .purging | .alarm | .fire => true
    | .inert | .ready | .running => s.zone.topUp
    | .air | .lockout => false

/-- Feed pulse FP. -/
def outFP (s : State) : Bool := hasZone s && s.zone.fpUntil.isSome

/-- Contactor coil KC of bay b. -/
def outKC (s : State) (b : BayIdx) : Bool := inService s && coilOn s b

/-- Release gate RG of bay b. -/
def outRG (s : State) (b : BayIdx) : Bool := inService s && s.bays[b].rgUntil.isSome

/-! ### Infeed queue (5.6) -/

/-- Removes the slot that refers to a record; the slots behind it close up (R106). -/
def dropSlot (s : State) (id : PackId) : State := updZone s fun z => { z with queue := z.queue.erase id }

/-- The oldest slot awaiting arrival: RESERVED, or IN_TRANSIT from an internal release (R83). -/
def awaitingSlot (s : State) : Option PackId :=
  s.zone.queue.find? fun id => decide (slotStage s id = some .reserved ∨ slotStage s id = some .inTransit)

/-- A feed starts: FP pulsed, the head FEEDING, the feed deadline at the full limit (R60, R107). DESIGN CHOICE: where the pulse of the feed
before still runs, the 500 ms start again and FP stays on without a break (log 40). -/
def startFeed (s : State) : State :=
  match s.zone.queue with
  | [] => s
  | id :: _ =>
    let s := updRecordOfId s id (toStage s .feeding)
    updZone s fun z =>
      { z with fpUntil := some (s.now + Config.pulse), feedUntil := (zoneCfg s).map fun c => s.now + c.feedLimit * Config.second }

/-- FEED is true, so a feed starts (R107). -/
def feedReact (s : State) : Option State := if feedPermit s then some (startFeed s) else none

/-- A record of a pack nobody announced (R49, R59). -/
def unidentifiedRecord (s : State) : PackRecord :=
  { id := none, stage := .unidentified, bay := none, origin := none, dest := none, cls := none, cells := none, edecl := none
    qdis := 0, edis := 0, residual := none, acc := none, rebounds := 0, restPassed := false, degraded := false, thermal := false
    admittedAt := nodeTime s, stageSince := nodeTime s, unanswered := 0, deadline := none }

/-- One more pack handed in (R61). -/
def countHandedIn (s : State) : State := updCounters s fun c => { c with handedIn := c.handedIn + 1 }

/-- Filtered AR rising, matched by order alone (R59, R83, R84). -/
def arrive (s : State) : State :=
  match awaitingSlot s with
  | some id =>
    match recordOfId s id with
    | none => s
    | some r =>
      let t := updRecordOfId s id fun x => { toStage s .waiting x with deadline := none }
      if r.stage = .reserved then queueHandover (countHandedIn t) (r.origin.getD 0) (.landed id) else t
  | none =>
    let s := if recordFree s then countHandedIn (addRecord s (unidentifiedRecord s)) else s
    pulseRow s .ac3

/-- Filtered FC rising: a FEEDING head completes; anything else is discarded (R60, R108). -/
def feedComplete (s : State) : State :=
  match s.zone.queue with
  | [] => s
  | id :: _ =>
    match recordOfId s id with
    | none => s
    | some r =>
      if r.stage = .feeding then
        let s := updCounters (addShredded (removeRecordOfId s id) r.residual) fun c => { c with shredded := c.shredded + 1 }
        updZone s fun z => { z with queue := z.queue.drop 1, feedUntil := none }
      else s

end Sys2Proof.Machine
end

