-- ==== Sys2Proof/Machine/React.lean ====
section
/-! DEFINITION. What one event sets off (R9, R132, R149, R158): the conditions of the 66 rows as their owners form them, their handing to
the cause table with the transitions made at a raising, and the reactions of timers, zone and bays until none is left. -/

namespace Sys2Proof.Machine

/-! ### Conditions -/

/-- The sum of the spark window (R21). -/
def sparkSum (s : State) : Nat := s.zmeas.spark.sum

/-- The conditions of FD1 to FD4 as the fire logic forms them (R114 to R119). -/
def formedFire (s : State) : Fin 4 → Bool
  | 0 => s.fire.fd1
  | 1 => s.fire.det[0].persisted || s.fire.det[1].persisted || s.fire.det[2].persisted || s.fire.det[3].persisted
  | 2 => s.zmeas.chFire1.filtered || s.zmeas.chFire2.filtered
  | 3 => decide ((cfg s).sfire ≤ sparkSum s)

/-- The conditions of FD1 to FD4 as the cause table sees them: a held row stays true (R122). -/
def seenFire (s : State) (k : Fin 4) : Bool := formedFire s k || s.fire.held[k]

/-- Some detector record is active (R112). -/
def anyActive (s : State) : Bool :=
  s.fire.det[0].active || s.fire.det[1].active || s.fire.det[2].active || s.fire.det[3].active

/-- A recorded originator keeps the condition of a remote row true: a watched one that is not FRESH, or that still reports a section of the
row's set (R135). -/
def keepsRemote (s : State) (row : Remote) (sections : StatusPayload → Sections) (a : Addr) : Bool :=
  match watchIndex s a with
  | none => false
  | some p =>
    decide (s.peers[p].state ≠ .fresh) ||
      match s.peers[p].reported with
      | some r => sections r &&& row.sections != 0
      | none => false

/-- The condition of FD5 or TH3 (R135). -/
def remoteCondition (s : State) (row : Remote) (sections : StatusPayload → Sections) : Bool :=
  row.originators.any (keepsRemote s row sections)

/-- EL3[b]: V or I is INVALID or has its clamp flag set (R4). -/
def degradedNow (m : BayMeasure) : Bool :=
  decide (m.v.status = .invalid ∨ m.i.status = .invalid) || m.v.clamp || m.i.clamp

/-- The condition of a row as its owner forms it from the state; the rows whose conditions are events are false between them (R128). -/
def formCondition (s : State) : Row → Bool
  | .fd1 => seenFire s 0
  | .fd2 => seenFire s 1
  | .fd3 => seenFire s 2
  | .fd4 => seenFire s 3
  | .fd5 => remoteCondition s s.causes.remoteFire StatusPayload.fireSections
  | .fp1 => anyActive s
  | .fp2 => decide ((cfg s).swarn ≤ sparkSum s)
  | .at1 => decide (s.zone.state = .inert ∨ s.zone.state = .ready ∨ s.zone.state = .running) && s.zmeas.coWarn.filtered
  | .at3 => s.zmeas.coDis.filtered
  | .at4 => decide (s.zmeas.o2a.status = .invalid ∨ s.zmeas.o2b.status = .invalid)
  | .at5 => decide (s.zone.state ≠ .air) && !s.zmeas.dc.filtered
  | .th1 b => s.meas[b].ctOver.filtered
  | .th2 b => s.meas[b].ctRise.filtered
  | .th3 => remoteCondition s s.causes.remoteThermal StatusPayload.thermalSections
  | .el1 b => s.meas[b].ciMax.filtered
  | .el2 b => s.meas[b].ciRev.filtered
  | .el3 b => degradedNow s.meas[b]
  | .el4 b => s.bays[b].mismatch
  | .ln1 p => decide (s.peers[p].state ≠ .fresh ∧ ¬(s.peers[p].state = .absent ∧ s.startUntil.isSome))
  | .ln2 => s.bus.blocked
  | .ac1 b => s.bays[b].removed
  | .ac2 b => s.bays[b].foundAtStart
  | .ac5 => s.packs.records.any fun r => decide (r.stage = .missing)
  | .ac6 b => ((recordOfBay s b).map fun r => decide (r.unanswered = 3)).getD false
  | .at2 | .ac3 | .ac4 | .ac7 => false

/-- The condition a row has: false where its subject is not configured (R125). -/
def conditionOf (s : State) (r : Row) : Bool := rowConfigured s r && formCondition s r

/-! ### Handing -/

/-- The rows whose condition has changed since it was last handed, in table order. -/
def changedRows (s : State) : List Row := allRows.filter fun r => conditionOf s r != (rowState s r).condition

/-- The transition made at a raising: FIRE at FD1 to FD4, QUARANTINE at TH2[b] (R41, R102). DESIGN CHOICE: where one arrival raises TH1[b]
and TH2[b] together, the quarantine is taken before the hold, so a SAFE or OFFERING bay's rest-passed mark stays set (log 37). -/
def onRaise (s : State) : Row → State
  | .fd1 | .fd2 | .fd3 | .fd4 => enterFire s
  | .th2 b => thermalQuarantine s b
  | _ => s

/-- The zone and the bays give way to the rows as they stand (R39, R99, R100). -/
def obeyRows (s : State) : State := allBays.foldl obeyBay (obeyZone s)

/-- The conditions one event changed are handed together, lowest position first, and their reactions follow (R120, R127, R131). -/
def handConditions (s : State) : Option State :=
  let rows := changedRows s
  if rows.isEmpty then none
  else
    let newly := rows.filter fun r => conditionOf s r && !raised s r
    let t := rows.foldl (fun u r => handCondition u r (conditionOf s r)) s
    some (obeyRows (newly.foldl onRaise t))

/-! ### Reactions until none is left -/

/-- The dwell timers take the transitions of the event, judged from the timers before it (R158, R160). -/
def timersReact (before : Vector Timer 16) (s : State) : Option State :=
  let ts := timersAfter s before
  if ts = s.timers then none else some { s with timers := ts }

/-- The next reaction of an event: conditions handed, then dwell timers, then the readers of the permits (R158). -/
def react (before : Vector Timer 16) (s : State) : Option State :=
  (handConditions s).or <| (timersReact before s).or <| (zoneReact s).or <|
    (allBays.findSome? (bayReact s)).or (feedReact s)

/-- Reactions one after another, at most n of them. -/
def reactions (before : Vector Timer 16) : Nat → State → State
  | 0, s => s
  | n + 1, s =>
    match react before s with
    | some t => reactions before n t
    | none => s

/-- The most reactions one event sets off. A configuration whose site terms never come to rest stops here and goes on at the next event
(log 6). -/
def reactionLimit : Nat := 64

/-- Everything an event sets off, after its own effect. -/
def settle (s : State) : State := reactions s.timers reactionLimit (obeyRows s)

end Sys2Proof.Machine
end

