-- ==== Sys2Proof/Machine/Arrivals.lean ====
section
/-! DEFINITION. The arrivals: sample pairs, temperatures, zone channels, discrete inputs, spark pulses and second boundaries (01), with
what their owners do at the crossings (02, 04, 05, 06). -/

namespace Sys2Proof.Machine

/-- A command of this part that reaches its block: in service it has an effect, otherwise it is taken and discarded (R22, R193, R200). -/
def whenServing (s : State) (f : State → State) : Host.Outcome State Fault Refusal := .next (if inService s then f s else s)

/-! ### Channels (1.1) -/

/-- A channel after an arrival (R1 to R3). `fullScale` says which values are at full scale. -/
def takeReading (fullScale : Int → Bool) (c : Channel) (r : Reading) : Channel :=
  if r.valid then { status := .valid, value := some r.value, run := 0, clamp := fullScale r.value }
  else if c.status = .invalid ∨ 4 ≤ c.run + 1 then { status := .invalid, value := none, run := 4, clamp := false }
  else
    match c.status with
    | .noSample => { c with run := c.run + 1, value := none }
    | .valid | .held | .invalid => { c with status := .held, run := c.run + 1 }

/-- Temperature and zone channels have no full scale (R3). -/
def noFullScale (_ : Int) : Bool := false

/-- Full scale of a voltage (R3). -/
def fullScaleV (x : Int) : Bool := decide (x = 65535)

/-- Full scale of a current (R3). -/
def fullScaleI (x : Int) : Bool := decide (x = -32768 ∨ x = 32767)

/-! ### Pairs -/

/-- V and I taken, then one decision in each comparator that reads them; those of the pack only while the bay holds one (R7, R10). -/
def measurePair (s : State) (b : BayIdx) (v i : Reading) : State :=
  let c := cfg s
  updMeas s b fun m =>
    let vc := takeReading fullScaleV m.v v
    let ic := takeReading fullScaleI m.i i
    let m := { m with
      v := vc, i := ic
      ciMax := decideOn c.ke ic.value (fun x => decide (x ≥ (c.imax : Int))) m.ciMax
      ciRev := decideOn c.ke ic.value (fun x => decide (x ≤ -(c.irev : Int))) m.ciRev }
    match m.thresholds with
    | none => m
    | some t =>
      { m with
        cvEnd := decideOn c.ke vc.value (fun x => decide (x ≤ (t.vend : Int))) m.cvEnd
        cvRel := decideOn c.ke vc.value (fun x => decide (x ≥ (t.vrel : Int))) m.cvRel
        ciEnd := decideOn c.ke ic.value (fun x => decide (x ≤ (t.iend : Int))) m.ciEnd }

/-- The degraded mark of the pack while a clamp flag is set, in whatever state its bay is (R3). DEDUCED: in OFFERING too, where the offer
goes on with the mark it was built with, though R70 has every change of the marks leave OFFERING first (log 39). -/
def markDegraded (s : State) (b : BayIdx) : State :=
  if s.meas[b].v.clamp || s.meas[b].i.clamp then updRecordOfBay s b fun r => { r with degraded := true } else s

/-- A sum kept within two limits (R14). -/
def saturate (lo hi x : Int) : Int := max lo (min hi x)

/-- One interval integrated into a record, with the reported figures written again (R13 to R16). -/
def integrateRecord (period : Nat) (v i : Int) (r : PackRecord) : PackRecord :=
  match r.acc with
  | none => r
  | some a =>
    let qa := a.qa + i * period
    let ea := a.ea + v * i * period
    let qa' := saturate (-(2 ^ 47)) (2 ^ 47 - 1) qa
    let ea' := saturate (-(2 ^ 63)) (2 ^ 63 - 1) ea
    let e := ea'.tdiv 3600000000
    let edis := saturate (-1000000) 1000000 e
    { r with
      acc := some { qa := qa', ea := ea' }
      qdis := qa'.tdiv 3600000
      edis := edis
      residual := r.edecl.map fun d => residualOf d edis
      degraded := r.degraded || decide (qa' ≠ qa) || decide (ea' ≠ ea) || decide (edis ≠ e) }

/-- The bay states in which a pair is not integrated (R13). -/
def frozen (s : State) (b : BayIdx) : Bool :=
  decide (s.bays[b].state = .safe ∨ s.bays[b].state = .offering ∨ s.bays[b].state = .releasing)

/-- Integration of the pair in use, when the contactor reads closed and the bay is in none of the frozen states (R13). -/
def integrate (s : State) (b : BayIdx) : State :=
  match s.meas[b].v.value, s.meas[b].i.value with
  | some v, some i =>
    if contactClosed s b && !frozen s b then updRecordOfBay s b (integrateRecord (cfg s).samplePeriod v i) else s
  | _, _ => s

/-- CV_rel[b] rises through in SAFE or OFFERING: a late rebound (R44). A hold raised by the same arrival may be taken first (log 7). DESIGN
CHOICE: a rebound that comes first reads CONNECT[b] as it stands before the arrival's rows are raised (R35; log 41). -/
def lateReboundOrHold (s : State) (b : BayIdx) : State :=
  let handed := (handConditions s).getD s
  if handed.bays[b].state = .held then
    let (rebounds, s) := takeChoice s
    if rebounds then lateRebound s b else s
  else lateRebound s b

/-- PAIR_ARRIVAL (R1 to R4, R7 to R10, R13 to R16, R33, R44). -/
def execPairArrival (b : BayIdx) (v : BitVec 16) (vValid : Bool) (i : BitVec 16) (iValid : Bool) (s : State) :
    Host.Outcome State Fault Refusal :=
  whenServing s fun s =>
    if bayConfigured s b then
      let t := measurePair s b { value := v.toNat, valid := vValid } { value := i.toInt, valid := iValid }
      let t := armEnd (integrate (markDegraded t b) b) b
      let rises := t.meas[b].cvRel.filtered && !s.meas[b].cvRel.filtered
      let t :=
        if rises && decide (t.bays[b].state = .safe ∨ t.bays[b].state = .offering) then lateReboundOrHold t b else t
      settle t
    else s

/-! ### Temperatures -/

/-- A value pushed into a ring of eight (R18). -/
def pushRing (ring : List Int) (x : Int) : List Int := (ring ++ [x]).drop (ring.length + 1 - 8)

/-- The rise of a full ring: newest less oldest (R18). -/
def riseOf (ring : List Int) : Option Int := if ring.length = 8 then some (ring.getD 7 0 - ring.getD 0 0) else none

/-- TB taken: CT_over decides, the ring is fed or emptied, CT_rise decides on a full ring (R5, R18). -/
def measureTb (s : State) (b : BayIdx) (tb : Reading) : State :=
  let c := cfg s
  updMeas s b fun m =>
    let ch := takeReading noFullScale m.tb tb
    let ring := match ch.value with
      | some x => pushRing m.ring x
      | none => if ch.status = .invalid then [] else m.ring
    { m with
      tb := ch, ring := ring
      ctOver := decideOn c.kt ch.value (fun x => decide (x ≥ c.tover)) m.ctOver
      ctRise := decideOn c.kt (ch.value.bind fun _ => riseOf ring) (fun x => decide (x ≥ 7 * (c.rlim : Int))) m.ctRise }

/-- TB_ARRIVAL (R1, R2, R5, R18). -/
def execTbArrival (b : BayIdx) (tb : Reading) (s : State) : Host.Outcome State Fault Refusal :=
  whenServing s fun s => if bayConfigured s b then settle (measureTb s b tb) else s

/-! ### Zone channels -/

/-- What an oxygen channel counts as: 25.00 % vol when INVALID, nothing in NO_SAMPLE (R19). -/
def oxygenCounted (c : Channel) : Option Int := if c.status = .invalid then some 2500 else c.value

/-- The effective oxygen, the greater of the two; not formed while either channel is in NO_SAMPLE (R19). -/
def effectiveOxygen (a b : Channel) : Option Int :=
  match oxygenCounted a, oxygenCounted b with
  | some x, some y => some (max x y)
  | _, _ => none

/-- The difference of two sensors that both report (R20). -/
def oxygenDifference (a b : Channel) : Option Int :=
  match a.value, b.value with
  | some x, some y => some |x - y|
  | _, _ => none

/-- The zone channels taken and their comparators decided (R5, R7, R19, R20). -/
def measureZone (s : State) (z : ZoneConfig) (o2a o2b h1 h2 : Reading) : State :=
  let c := cfg s
  updZMeas s fun m =>
    let a := takeReading noFullScale m.o2a o2a
    let b := takeReading noFullScale m.o2b o2b
    let x := takeReading noFullScale m.h1 h1
    let y := takeReading noFullScale m.h2 h2
    let eff := effectiveOxygen a b
    { m with
      o2a := a, o2b := b, h1 := x, h2 := y
      coInert := decideOn c.kg eff (fun o => decide (o ≤ (z.o2inert : Int))) m.coInert
      coTop := decideOn c.kg eff (fun o => decide (o ≥ (z.o2top : Int))) m.coTop
      coWarn := decideOn c.kg eff (fun o => decide (o ≥ (z.o2warn : Int))) m.coWarn
      coDis := decideOn c.kg (oxygenDifference a b) (fun d => decide (d > (z.tol : Int))) m.coDis
      chFire1 := decideOn c.kh x.value (fun h => decide (h ≥ c.hfire)) m.chFire1
      chFire2 := decideOn c.kh y.value (fun h => decide (h ≥ c.hfire)) m.chFire2 }

/-- The top-up in INERT, READY and RUNNING: open at CO_top rising-through, closed at CO_inert falling-through (R96). -/
def topUpCrossing (before s : State) : State :=
  if s.zone.state = .inert ∨ s.zone.state = .ready ∨ s.zone.state = .running then
    let s := if s.zmeas.coTop.filtered && !before.zmeas.coTop.filtered then updZone s fun z => { z with topUp := true } else s
    if s.zmeas.coInert.filtered && !before.zmeas.coInert.filtered then updZone s fun z => { z with topUp := false } else s
  else s

/-- An INERT zone whose CO_inert rises through while CO_warn stands: the purge or AT1 may be taken first (R9, R95, R97; log 7). -/
def settleLostOrAlarm (s : State) : State :=
  if s.zone.state = .inert ∧ s.zmeas.coInert.filtered = false ∧ s.zmeas.coWarn.filtered = true then
    let (purges, s) := takeChoice s
    if purges then enterPurging s else s
  else s

/-- ZONE_ARRIVAL (R1, R2, R5, R19, R20, R94 to R97, R118). -/
def execZoneArrival (o2a o2b h1 h2 : Reading) (s : State) : Host.Outcome State Fault Refusal :=
  whenServing s fun s =>
    match zoneCfg s with
    | none => s
    | some z => settle (settleLostOrAlarm (topUpCrossing s (measureZone s z o2a o2b h1 h2)))

/-! ### Discrete inputs -/

/-- The input belongs to a configured bay or to the zone of a node that has one; a general input always counts (R6, R24). -/
def inputConfigured (s : State) : DiscreteInput → Bool
  | .pp b | .kf b => bayConfigured s b
  | .d _ | .dc | .ar | .fc => hasZone s
  | .g _ => true

/-- The filtered state of an input. -/
def inputFiltered (s : State) : DiscreteInput → Bool
  | .pp b => s.meas[b].pp.filtered
  | .kf b => s.meas[b].kf.filtered
  | .d n => s.zmeas.d[n].filtered
  | .dc => s.zmeas.dc.filtered
  | .ar => s.zmeas.ar.filtered
  | .fc => s.zmeas.fc.filtered
  | .g n => s.zmeas.g[n].filtered

/-- One level pushed as one decision into an input's own history; a PP decision is counted while the presence check is pending
(R6, R47). -/
def pushInput (s : State) (x : DiscreteInput × Bool) : State :=
  let push := pushDecision (cfg s).kd x.2
  if inputConfigured s x.1 then
    match x.1 with
    | .pp b =>
      let s := updMeas s b fun m => { m with pp := push m.pp }
      if s.bays[b].presencePending then updBay s b fun y => { y with ppSeen := y.ppSeen + 1 } else s
    | .kf b => updMeas s b fun m => { m with kf := push m.kf }
    | .d n => updZMeas s fun m => { m with d := m.d.set n.val (push m.d[n]) n.isLt }
    | .dc => updZMeas s fun m => { m with dc := push m.dc }
    | .ar => updZMeas s fun m => { m with ar := push m.ar }
    | .fc => updZMeas s fun m => { m with fc := push m.fc }
    | .g n => updZMeas s fun m => { m with g := m.g.set n.val (push m.g[n]) n.isLt }
  else s

/-- What one input hands to its owner at an arrival. -/
inductive InputEvent where
  | rising (x : DiscreteInput)
  | falling (x : DiscreteInput)
  | presence (b : BayIdx)
  deriving DecidableEq, Repr

/-- The event of one input at an arrival, if there is one. Until its presence check a bay takes no PP crossing (R47, R48). -/
def inputEvent (before s : State) (x : DiscreteInput) : Option InputEvent :=
  let crossing :=
    if inputFiltered s x && !inputFiltered before x then some (InputEvent.rising x)
    else if !inputFiltered s x && inputFiltered before x then some (InputEvent.falling x) else none
  if inputConfigured s x then
    match x with
    | .pp b => if s.bays[b].presencePending then if (cfg s).kd ≤ s.bays[b].ppSeen then some (.presence b) else none else crossing
    | .kf _ | .d _ | .dc | .ar | .fc | .g _ => crossing
  else none

/-- Filtered KF[b] rising (R32): agreement while KC is on; a contact that closes by itself while KC is off and no opening window runs. -/
def contactCloses (s : State) (b : BayIdx) : State :=
  updBay s b fun x =>
    if coilOn s b then { x with mismatch := false }
    else
      match x.window with
      | .opening _ => x
      | .none | .closing _ => { x with mismatch := true }

/-- Filtered KF[b] falling (R31, R32): agreement while KC is off, which ends an opening window; a contact that drops out while KC is on and
no closing window runs. -/
def contactOpens (s : State) (b : BayIdx) : State :=
  updBay s b fun x =>
    if coilOn s b then
      match x.window with
      | .closing _ => x
      | .none | .opening _ => { x with mismatch := true }
    else
      match x.window with
      | .opening _ => { x with mismatch := false, window := .none }
      | .none | .closing _ => { x with mismatch := false }

/-- The number of active detector records. -/
def activeCount (s : State) : Nat := ((List.finRange 4).filter fun n => s.fire.det[n].active).length

/-- Another active detector's onset lies at most W before now (R113, R114). -/
def coincident (s : State) (n : Fin 4) : Bool :=
  (List.finRange 4).any fun m =>
    decide (m ≠ n) && s.fire.det[m].active &&
      match s.fire.det[m].onset with
      | some t => decide ((nodeTime s - t).toNat ≤ (cfg s).window * 100)
      | none => false

/-- Filtered Dn rising (R112, R114). -/
def detectorRises (s : State) (n : Fin 4) : State :=
  let s := updDetector s n fun _ =>
    { active := true, onset := some (nodeTime s), persistUntil := some (nodeCount s + (cfg s).tconf * 100), persisted := false }
  if coincident s n then updFire s fun f => { f with fd1 := true } else s

/-- Filtered Dn falling (R112, R115). -/
def detectorFalls (s : State) (n : Fin 4) : State :=
  let s := updDetector s n fun _ => detectorReset
  if activeCount s < 2 then updFire s fun f => { f with fd1 := false } else s

/-- The owner's own act at an input event. DC and the general inputs are read as levels (R97, R152, R156). -/
def takeInputEvent (s : State) : InputEvent → State
  | .presence b => presenceCheck s b
  | .rising (.pp b) => packSensed s b
  | .falling (.pp b) => packGone s b
  | .rising (.kf b) => contactCloses s b
  | .falling (.kf b) => contactOpens s b
  | .rising (.d n) => detectorRises s n
  | .falling (.d n) => detectorFalls s n
  | .rising .ar => arrive s
  | .rising .fc => feedComplete s
  | .falling .ar | .falling .fc | .rising .dc | .falling .dc | .rising (.g _) | .falling (.g _) => s

/-- DISCRETE_ARRIVAL: all levels are pushed, then the risings and fallings are taken one after another in the order given, each with what
it sets off (R6, R9; log 15); the first-out mark is the arrival's as a whole (R131, log 35). -/
def execDiscreteArrival (levels : List (DiscreteInput × Bool)) (s : State) : Host.Outcome State Fault Refusal :=
  whenServing s fun s =>
    let pushed := levels.foldl pushInput s
    let events := levels.filterMap fun x => inputEvent s pushed x.1
    markFirstOut s (events.foldl (fun u e => settle (takeInputEvent u e)) pushed)

/-! ### Sparks -/

/-- SP_ARRIVAL: pulses into the current bin, which saturates (R6, R21, R119). -/
def execSpArrival (pulses : BitVec 8) (s : State) : Host.Outcome State Fault Refusal :=
  whenServing s fun s =>
    if hasZone s then
      settle (updZMeas s fun m =>
        { m with spark := m.spark.dropLast ++ [min 255 ((m.spark.getLast?).getD 0 + pulses.toNat)] })
    else s

/-- SECOND_BOUNDARY: the oldest bin is discarded and a new current bin opened, once for each boundary that node time has reached (R21). -/
def execSecondBoundary (s : State) : Host.Outcome State Fault Refusal :=
  whenServing s fun s =>
    if 0 < s.secondsDue then
      let s := { s with secondsDue := s.secondsDue - 1 }
      if hasZone s then settle (updZMeas s fun m => { m with spark := m.spark.drop 1 ++ [0] }) else s
    else s

end Sys2Proof.Machine
end

