-- ==== Sys2Proof/Machine/BayEvents.lean ====
section
/-! DEFINITION. The expiries of the bay controllers' windows, timers and pulses (02). Each acts only once its interval has run (log 2). -/

namespace Sys2Proof.Machine

/-- CLOSING_WINDOW_EXPIRY (R30, R32). -/
def execClosingWindowExpiry (b : BayIdx) (s : State) : Host.Outcome State Fault Refusal :=
  whenServing s fun s =>
    match s.bays[b].window with
    | .closing u =>
      if u ≤ s.now then
        let fails := decide (s.bays[b].state = .connecting) && !contactClosed s b
        settle (updBay s b fun x => { x with window := .none, mismatch := x.mismatch || fails })
      else s
    | .none | .opening _ => s

/-- OPENING_WINDOW_EXPIRY (R31, R32). -/
def execOpeningWindowExpiry (b : BayIdx) (s : State) : Host.Outcome State Fault Refusal :=
  whenServing s fun s =>
    match s.bays[b].window with
    | .opening u =>
      if u ≤ s.now then settle (updBay s b fun x => { x with window := .none, mismatch := x.mismatch || contactClosed s b }) else s
    | .none | .closing _ => s

/-- The judgement at the rest expiry: rebound, fraction test, release test, SAFE (R36). -/
def judgeRest (s : State) (b : BayIdx) : State :=
  let s := updBay s b fun x => { x with restUntil := none }
  match recordOfBay s b with
  | none => s
  | some r =>
    if s.meas[b].cvRel.filtered then rebound s b
    else if !fractionPasses s r then enterQuarantine s b .fraction
    else if !releaseTestPasses s r then enterQuarantine s b .residual
    else
      updRecordOfBay (updBay s b fun x => { x with state := .safe, ret := none, backoffUntil := none }) b fun r =>
        { r with restPassed := true }

/-- REST_TIMER_EXPIRY (R36). -/
def execRestTimerExpiry (b : BayIdx) (s : State) : Host.Outcome State Fault Refusal :=
  whenServing s fun s =>
    if decide (s.bays[b].state = .resting) && due s s.bays[b].restUntil then settle (judgeRest s b) else s

/-- OFFER_BACKOFF_EXPIRY (R44, R45). -/
def execOfferBackoffExpiry (b : BayIdx) (s : State) : Host.Outcome State Fault Refusal :=
  whenServing s fun s =>
    if due s s.bays[b].backoffUntil then settle (updBay s b fun x => { x with backoffUntil := none }) else s

/-- RG_PULSE_END (R25). -/
def execRgPulseEnd (b : BayIdx) (s : State) : Host.Outcome State Fault Refusal :=
  whenServing s fun s => if due s s.bays[b].rgUntil then updBay s b fun x => { x with rgUntil := none } else s

end Sys2Proof.Machine
end

