-- ==== Sys2Proof/Machine/HandoverEvents.lean ====
section
/-! DEFINITION. The commands of the handover exchange (04): the expiries of offers, transits and reservations, and the five frames taken. -/

namespace Sys2Proof.Machine

/-! ### Offers that end without an answer -/

/-- An offer expires: SAFE with the backoff started, the entry NONE, the unanswered offers counted up to 3 (R45, R71, R75). -/
def expireOffer (s : State) (b : BayIdx) : State :=
  updRecordOfBay (backToSafe (abandonOffer s b) b) b fun r => { r with unanswered := min 3 (r.unanswered + 1) }

/-- The entry of bay b has been QUEUED for 4 × P (R71). -/
def queuedTooLong (s : State) (b : BayIdx) : Bool :=
  match s.handover[b].entry with
  | .queued _ _ t => decide (s.bays[b].state = .offering ∧ t + 4 * periodOfNode s ≤ s.now)
  | .none | .out _ _ _ _ => false

/-- The answer window of bay b's offer has run out (R71). -/
def windowOver (s : State) (b : BayIdx) : Bool :=
  match s.handover[b].entry with
  | .out _ _ _ w => decide (s.bays[b].state = .offering ∧ w ≤ s.now)
  | .none | .queued _ _ _ => false

/-- OFFER_QUEUE_EXPIRY (R71). -/
def execOfferQueueExpiry (b : BayIdx) (s : State) : Host.Outcome State Fault Refusal :=
  whenServing s fun s => if queuedTooLong s b then settle (expireOffer s b) else s

/-- ANSWER_WINDOW_EXPIRY (R71). -/
def execAnswerWindowExpiry (b : BayIdx) (s : State) : Host.Outcome State Fault Refusal :=
  whenServing s fun s => if windowOver s b then settle (expireOffer s b) else s

/-! ### Deadlines of records -/

/-- The deadline of the record with an ID has been reached. -/
def deadlineReached (s : State) (id : PackId) : Bool := ((recordOfId s id).map fun r => dueCount s r.deadline).getD false

/-- The transit deadline of a record: MISSING out of IN_TRANSIT with an internal slot removed; a release given up out of a RELEASING bay
(R46, R57, R77, R78). -/
def expireTransit (s : State) (id : PackId) : State :=
  match recordOfId s id with
  | none => s
  | some r =>
    match r.stage with
    | .inTransit =>
      let t := updRecordOfId s id fun x => { toStage s .missing x with deadline := none }
      if r.origin = some s.loader.address then dropSlot t id else t
    | .atBay =>
      match r.bay with
      | some b => if s.bays[b].state = .releasing then backToSafe (releaseReservation s b) b else s
      | none => s
    | .missing | .reserved | .waiting | .feeding | .unidentified => s

/-- TRANSIT_DEADLINE_EXPIRY (R46, R57, R77, R78). -/
def execTransitDeadlineExpiry (id : PackId) (s : State) : Host.Outcome State Fault Refusal :=
  whenServing s fun s => if deadlineReached s id then settle (expireTransit s id) else s

/-- The record and the slot of a reservation are removed (R58, R81, R82). -/
def removeReservation (s : State) (id : PackId) : State := dropSlot (removeRecordOfId s id) id

/-- The deadline of a RESERVED record: record and slot removed, AC4 (R82). -/
def expireReservation (s : State) (id : PackId) : State :=
  if (recordOfId s id).map PackRecord.stage = some .reserved then pulseRow (removeReservation s id) .ac4 else s

/-- RESERVATION_EXPIRY (R58, R82). -/
def execReservationExpiry (id : PackId) (s : State) : Host.Outcome State Fault Refusal :=
  whenServing s fun s => if deadlineReached s id then settle (expireReservation s id) else s

/-! ### OFFER -/

/-- The form of an OFFER (R79). -/
def offerFormed (s : State) (o : OfferPayload) : Bool :=
  decide (o.dest = s.loader.address) && packIdOk o.id && decide (o.cls.toNat ≤ 3) &&
    decide (1 ≤ o.cells.toNat ∧ o.cells.toNat ≤ 250) && decide (o.originBay.toNat ≤ 3) &&
    o.edecl.all (fun e => decide (e.toNat ≤ 1000000)) && decide (-1000000 ≤ o.edis.toInt ∧ o.edis.toInt ≤ 1000000)

/-- The OFFER repeats one that was accepted (R79). -/
def isRepeat (s : State) (sender : Addr) (o : OfferPayload) : Bool :=
  ((recordOfId s o.id).map fun r => decide (r.stage = .reserved ∧ r.origin = some sender)).getD false

/-- The Residual a record made from an OFFER would hold (R58, R80). -/
def offeredResidual (o : OfferPayload) : Option Nat := o.edecl.map fun e => residualOf e.toNat o.edis.toInt

/-- The first check of R80 that an OFFER fails. -/
def declines (s : State) (o : OfferPayload) : Option DeclineReason :=
  (zoneDeclines s).or <|
    if !recordFree s then some .full
    else if (recordOfId s o.id).isSome then some .duplicate
    else packDeclines s (offeredResidual o) o.degraded

/-- The RESERVED record of an accepted OFFER (R49, R58). -/
def reservedRecord (s : State) (sender : Addr) (o : OfferPayload) : PackRecord :=
  { id := some o.id, stage := .reserved, bay := some (Fin.ofNat 4 o.originBay.toNat), origin := some sender, dest := none
    cls := some (Fin.ofNat 4 o.cls.toNat), cells := some o.cells.toNat, edecl := o.edecl.map BitVec.toNat
    qdis := o.qdis.toInt, edis := o.edis.toInt, residual := offeredResidual o, acc := none, rebounds := 0
    restPassed := o.restPassed, degraded := o.degraded, thermal := false, admittedAt := nodeTime s, stageSince := nodeTime s
    unanswered := 0, deadline := some (nodeCount s + (cfg s).transitLimit * 100) }

/-- An accepted OFFER: record, slot and ACCEPT at one event (R81). -/
def reserve (s : State) (sender : Addr) (o : OfferPayload) : State :=
  queueHandover (updZone (addRecord s (reservedRecord s sender o)) fun z => { z with queue := z.queue ++ [o.id] }) sender (.accept o.id)

/-- An OFFER that has reached the destination half (R76, R79 to R81). -/
def takeOffer (s : State) (sender : Addr) (o : OfferPayload) : State :=
  if offerFormed s o && handoverFree s then
    if isRepeat s sender o then settle (queueHandover s sender (.accept o.id))
    else
      match declines s o with
      | none => settle (reserve s sender o)
      | some reason => settle (queueHandover s sender (.decline o.id reason))
  else s

/-- OFFER (R79 to R81, R183, R184). -/
def execOffer (h : Header) (o : OfferPayload) (s : State) : Host.Outcome State Fault Refusal :=
  .next (if heardOwn s h then takeOffer s h.sender o else s)

/-! ### Answers -/

/-- The offer entry is for this ID and this destination (R72). -/
def entryIs (e : OfferEntry) (sender : Addr) (id : PackId) : Bool :=
  match e with
  | .none => false
  | .queued i d _ | .out i d _ _ => decide (i = id ∧ d = sender)

/-- The bay whose offer a frame answers (R72). -/
def answeredBay (s : State) (sender : Addr) (id : PackId) : Option BayIdx :=
  allBays.find? fun b => decide (s.bays[b].state = .offering) && entryIs s.handover[b].entry sender id

/-- What every answer does: window stopped, entry NONE, a queued OFFER taken out, the count set to 0 (R72). -/
def endOffer (s : State) (b : BayIdx) : State := updRecordOfBay (abandonOffer s b) b fun r => { r with unanswered := 0 }

/-- A late answer from the destination of the bay that holds the pack sets the count to 0 (R74). -/
def lateAnswer (s : State) (sender : Addr) (id : PackId) : State :=
  match recordOfId s id with
  | some { stage := .atBay, bay := some b, .. } =>
    if bayDest s b = sender then updRecordOfId s id fun r => { r with unanswered := 0 } else s
  | _ => s

/-- A late ACCEPT repeats one already taken (R74). -/
def releaseUnderWay (s : State) (sender : Addr) (id : PackId) : Bool :=
  match recordOfId s id with
  | none => false
  | some r =>
    decide (r.dest = some sender) &&
      match r.stage, r.bay with
      | .inTransit, _ => true
      | .atBay, some b => decide (s.bays[b].state = .releasing)
      | _, _ => false

/-- An ACCEPT taken by the source half (R72, R74). -/
def takeAccept (s : State) (sender : Addr) (id : PackId) : State :=
  match answeredBay s sender id with
  | some b =>
    let t := endOffer s b
    if releasePermit s b then enterReleasing t b sender else queueHandover (backToSafe t b) sender (.withdraw id)
  | none =>
    let t := lateAnswer s sender id
    if releaseUnderWay s sender id then t else queueHandover t sender (.withdraw id)

/-- ACCEPT (R72, R74, R183, R184). -/
def execAccept (h : Header) (id : PackId) (s : State) : Host.Outcome State Fault Refusal :=
  .next (if heardOwn s h && packIdLengthOk id then settle (takeAccept s h.sender id) else s)

/-- A DECLINE taken by the source half (R72, R74). -/
def takeDecline (s : State) (sender : Addr) (id : PackId) (reason : DeclineReason) : State :=
  match answeredBay s sender id with
  | some b => updHandover (backToSafe (endOffer s b) b) b fun x => { x with lastDecline := some reason }
  | none => lateAnswer s sender id

/-- DECLINE (R72, R74, R183, R184). -/
def execDecline (h : Header) (id : PackId) (reason : DeclineReason) (s : State) : Host.Outcome State Fault Refusal :=
  .next (if heardOwn s h && packIdLengthOk id then settle (takeDecline s h.sender id reason) else s)

/-! ### WITHDRAW and LANDED -/

/-- A WITHDRAW taken by the destination half (R81). -/
def takeWithdraw (s : State) (sender : Addr) (id : PackId) : State :=
  match recordOfId s id with
  | some r => if r.stage = .reserved ∧ r.origin = some sender then removeReservation s id else s
  | none => s

/-- WITHDRAW (R58, R81, R183, R184). -/
def execWithdraw (h : Header) (id : PackId) (s : State) : Host.Outcome State Fault Refusal :=
  .next (if heardOwn s h && packIdLengthOk id then settle (takeWithdraw s h.sender id) else s)

/-- One more pack handed out (R61). -/
def countHandedOut (s : State) : State := updCounters s fun c => { c with handedOut := c.handedOut + 1 }

/-- A LANDED taken by the pack table (R57). -/
def takeLanded (s : State) (id : PackId) : State :=
  match recordOfId s id with
  | none => s
  | some r =>
    match r.stage with
    | .inTransit =>
      let t := countHandedOut (removeRecordOfId s id)
      if r.origin = some s.loader.address then dropSlot t id else t
    | .missing => countHandedOut (removeRecordOfId s id)
    | .atBay | .reserved | .waiting | .feeding | .unidentified => s

/-- LANDED (R57, R78, R183, R184). -/
def execLanded (h : Header) (id : PackId) (s : State) : Host.Outcome State Fault Refusal :=
  .next (if heardOwn s h && packIdLengthOk id then settle (takeLanded s id) else s)

end Sys2Proof.Machine
end

