-- ==== Sys2Proof/Machine/ZoneEvents.lean ====
section
/-! DEFINITION. The expiries of the zone controller's timers and pulse (05) and of the fire logic's timers (06). -/

namespace Sys2Proof.Machine

/-! ### Zone -/

/-- FP_PULSE_END (R91). -/
def execFpPulseEnd (s : State) : Host.Outcome State Fault Refusal :=
  whenServing s fun s => if due s s.zone.fpUntil then updZone s fun z => { z with fpUntil := none } else s

/-- The head of the infeed queue is FEEDING. -/
def headFeeding (s : State) : Bool := ((s.zone.queue.head?).map fun id => decide (slotStage s id = some .feeding)).getD false

/-- The feed deadline expires: the deadline stopped, and AC7 with the slot still FEEDING (R108). -/
def expireFeed (s : State) : State :=
  let t := updZone s fun z => { z with feedUntil := none }
  if headFeeding s then pulseRow t .ac7 else t

/-- FEED_DEADLINE_EXPIRY (R108). -/
def execFeedDeadlineExpiry (s : State) : Host.Outcome State Fault Refusal :=
  whenServing s fun s => if due s s.zone.feedUntil then settle (expireFeed s) else s

/-- PURGE_TIMER_EXPIRY: AIR with AT2 (R94). -/
def execPurgeTimerExpiry (s : State) : Host.Outcome State Fault Refusal :=
  whenServing s fun s =>
    if decide (s.zone.state = .purging) && due s s.zone.purgeUntil then settle (pulseRow (enterAir s) .at2) else s

/-- SETTLE_TIMER_EXPIRY: READY (R95). -/
def execSettleTimerExpiry (s : State) : Host.Outcome State Fault Refusal :=
  whenServing s fun s =>
    if decide (s.zone.state = .inert) && due s s.zone.settleUntil then settle (enterReady s) else s

/-- The flood timer is stopped at its expiry; the zone leaves FIRE by the reaction of R103. -/
def expireFlood (s : State) : State := updZone s fun z => { z with floodUntil := none }

/-- FLOOD_TIMER_EXPIRY (R103). -/
def execFloodTimerExpiry (s : State) : Host.Outcome State Fault Refusal :=
  whenServing s fun s => if decide (s.zone.state = .fire) && due s s.zone.floodUntil then settle (expireFlood s) else s

/-! ### Fire logic -/

/-- PERSISTENCE_TIMER_EXPIRY (R116, R117). -/
def execPersistenceTimerExpiry (n : Fin 4) (s : State) : Host.Outcome State Fault Refusal :=
  whenServing s fun s =>
    if s.fire.det[n].active && dueCount s s.fire.det[n].persistUntil then
      settle (updDetector s n fun d => { d with persistUntil := none, persisted := true })
    else s

/-- REFORMATION_TIMER_EXPIRY: the held set is emptied, and a zone kept in FIRE may leave it (R122, R123). -/
def execReformationTimerExpiry (s : State) : Host.Outcome State Fault Refusal :=
  whenServing s fun s =>
    if due s s.fire.reformUntil then
      settle (updFire s fun f => { f with held := Vector.replicate 4 false, reformUntil := none, zoneKept := false })
    else s

/-! ### Dwell timers and inhibits -/

/-- One 100 ms step of a TIMING timer (R161). -/
def stepTimer (preset : Nat) (t : Timer) : Timer :=
  { state := if t.elapsed + 1 = preset then .done else .timing, elapsed := t.elapsed + 1, stepFrom := t.stepFrom + 10 }

/-- DWELL_TIMER_STEP (R161, R162). -/
def execDwellTimerStep (d : Fin 16) (s : State) : Host.Outcome State Fault Refusal :=
  whenServing s fun s =>
    match timerDef s d.val with
    | none => s
    | some t =>
      if decide (s.timers[d].state = .timing) && decide (s.timers[d].stepFrom + 10 ≤ nodeCount s) then
        settle (updTimer s d (stepTimer t.preset))
      else s

/-- INHIBIT_EXPIRY (R140). -/
def execInhibitExpiry (r : Row) (s : State) : Host.Outcome State Fault Refusal :=
  whenServing s fun s =>
    if due s (rowState s r).inhibit then settle (updRow s r fun x => { x with inhibit := none }) else s

end Sys2Proof.Machine
end

