-- ==== Sys2Proof/Machine/PeerEvents.lean ====
section
/-! DEFINITION. The commands of the peer monitor and of the remote rows (09, 7.5): STATUS and TRIP received, staleness, the start window. -/

namespace Sys2Proof.Machine

/-! ### Remote rows -/

/-- The row a TRIP class acts on (R133). -/
def remoteRow : TripClass → Row
  | .fire => .fd5
  | .thermal => .th3

/-- The section set and originators of the row of a class. -/
def remoteOf (s : State) : TripClass → Remote
  | .fire => s.causes.remoteFire
  | .thermal => s.causes.remoteThermal

/-- Sets the section set and originators of the row of a class. -/
def setRemote (s : State) (c : TripClass) (r : Remote) : State :=
  updCauses s fun x =>
    match c with
    | .fire => { x with remoteFire := r }
    | .thermal => { x with remoteThermal := r }

/-- Sections and a sender merged into a raised remote row: the sender appended unless recorded or four are recorded (R133). -/
def mergeRemote (r : Remote) (sections : Sections) (sender : Addr) : Remote :=
  { sections := r.sections ||| sections
    originators :=
      if sender ∈ r.originators ∨ Config.originatorSize ≤ r.originators.length then r.originators else r.originators ++ [sender] }

/-- A station reports a trip of a class: a lowered row is raised with its sections and the station alone, a raised row takes both in
(R133, R134). -/
def reportTrip (s : State) (c : TripClass) (sections : Sections) (sender : Addr) : State :=
  if raised s (remoteRow c) then setRemote s c (mergeRemote (remoteOf s c) sections sender)
  else setRemote (raiseRow s (remoteRow c)) c { sections := sections, originators := [sender] }

/-- The condition of a remote row is true at its TRIP: on a raised row whose condition was false the acknowledgement is cleared
(R127, R133). -/
def tripCondition (s : State) (r : Row) : State :=
  updRow s r fun x => { x with acked := x.acked && x.condition }

/-- A TRIP that reaches the cause table (R133). -/
def takeTrip (s : State) (sender : Addr) (c : TripClass) (sections : Sections) : State :=
  if sections = 0 then s
  else settle (reportTrip (tripCondition s (remoteRow c)) c sections sender)

/-- TRIP (R133, R135, R183, R184). -/
def execTrip (h : Header) (cls : TripClass) (sections : Sections) (s : State) : Host.Outcome State Fault Refusal :=
  .next (if heardBroadcast s h then takeTrip s h.sender cls sections else s)

/-! ### Judgement of a STATUS -/

/-- The frame is newer: 1 to 127 ahead modulo 256 (R167). -/
def newer (last seq : Byte) : Bool := decide (1 ≤ (seq - last).toNat ∧ (seq - last).toNat ≤ 127)

/-- The sequence filter (R167). -/
def statusTaken (e : Peer) (seq : Byte) : Bool :=
  decide (e.state = .absent ∨ e.state = .stale) || ((e.lastSeq.map fun l => newer l seq).getD true)

/-- The frame matches this line: the own period, and a station in service (R169). -/
def matchesLine (s : State) (p : StatusPayload) : Bool := decide (p.period = s.loader.period ∧ p.mode ≠ .configFault)

/-- The frame is early: less than P/2 after the last arrival, for an entry that is neither ABSENT nor STALE (R170). -/
def earlyFrame (s : State) (e : Peer) : Bool :=
  decide (e.state ≠ .absent ∧ e.state ≠ .stale) &&
    ((e.lastArrival.map fun a => decide ((arrivalStamp s - a).toNat < periodOfNode s / 4)).getD false)

/-- The state of an entry after a matching frame, with its counts as the frame leaves them (R171). -/
def peerStateAfter (before : PeerState) (early : Bool) (earlyCount regularCount : Nat) : PeerState :=
  match before with
  | .absent | .stale | .incompatible => .fresh
  | .fresh => if early ∧ 2 ≤ earlyCount then .suspect else .fresh
  | .suspect => if !early ∧ 4 ≤ regularCount then .fresh else .suspect

/-- An entry after an accepted frame (R168 to R171). -/
def acceptStatus (s : State) (seq : Byte) (p : StatusPayload) (e : Peer) : Peer :=
  let early := earlyFrame s e
  let m := matchesLine s p
  let earlyCount := if m && early then min 255 (e.early + 1) else 0
  let regularCount := if m && !early then min 255 (e.regular + 1) else 0
  { state := if m then peerStateAfter e.state early earlyCount regularCount else .incompatible
    lastSeq := some seq, lastArrival := some (arrivalStamp s)
    staleAt := some (s.now / Config.ms * Config.ms + 4 * periodOfNode s)
    early := earlyCount, regular := regularCount, reported := some p }

/-! ### What the readers of a FRESH entry take -/

/-- A credited timer meets the zone age of a later frame of its peer: one that runs ahead has its count set to the age. A DONE one goes
back to TIMING with its steps timed from this frame, a TIMING one keeps the timing of its steps (R161, R164). -/
def setBack (s : State) (p : Fin 12) (age : Nat) (def_ : TimerDef) (t : Timer) : Timer :=
  if credited def_ && decide (def_.input.index = some p.val) && decide (t.state ≠ .idle) && literalHolds s s.timers def_.input &&
      decide (age < t.elapsed) then
    { state := .timing, elapsed := age, stepFrom := if t.state = .done then nodeCount s else t.stepFrom }
  else t

/-- Every credited timer of a peer meets the zone age of its frame (R164). -/
def setBackTimers (s : State) (p : Fin 12) (age : Nat) : State :=
  { s with
    timers :=
      Vector.ofFn fun d =>
        match timerDef s d.val with
        | some def_ => setBack s p age def_ s.timers[d]
        | none => s.timers[d] }

/-- The trips that a FRESH peer reports in own sections (R134). -/
def reportedTrips (s : State) (sender : Addr) (p : StatusPayload) : State :=
  let fire := p.fireSections &&& ownSections s
  let thermal := p.thermalSections &&& ownSections s
  let s := if fire = 0 then s else reportTrip s .fire fire sender
  if thermal = 0 then s else reportTrip s .thermal thermal sender

/-- A STATUS of the watched peer at position p (R166 to R173). -/
def takeStatus (s : State) (i : Fin 12) (h : Header) (p : StatusPayload) : State :=
  if statusTaken s.peers[i] h.seq then
    let t := updPeer s i (acceptStatus s h.seq p)
    if t.peers[i].state = .fresh then settle (reportedTrips (setBackTimers t i p.zoneAge.toNat) h.sender p) else settle t
  else s

/-- STATUS (R134, R164, R166 to R173, R183, R184). -/
def execStatus (h : Header) (p : StatusPayload) (s : State) : Host.Outcome State Fault Refusal :=
  .next (if heardBroadcast s h then
    match watchIndex s h.sender with
    | some i => takeStatus s i h p
    | none => s
  else s)

/-! ### Expiries -/

/-- A state in which an entry is subject to its staleness deadline (R172). -/
def peerInUse (e : Peer) : Bool := decide (e.state = .fresh ∨ e.state = .suspect ∨ e.state = .incompatible)

/-- STALENESS_DEADLINE_EXPIRY (R172, R173). -/
def execStalenessDeadlineExpiry (p : Fin 12) (s : State) : Host.Outcome State Fault Refusal :=
  whenServing s fun s =>
    if peerInUse s.peers[p] && due s s.peers[p].staleAt then
      settle (updPeer s p fun e => { e with state := .stale, staleAt := none })
    else s

/-- START_WINDOW_EXPIRY (R174). -/
def execStartWindowExpiry (s : State) : Host.Outcome State Fault Refusal :=
  whenServing s fun s => if due s s.startUntil then settle { s with startUntil := none } else s

end Sys2Proof.Machine
end

