-- ==== Sys2Proof/Machine/BusEvents.lean ====
section
/-! DEFINITION. The transmitter (10.3), the own STATUS (9.5), and the received frames that reach no block. -/

namespace Sys2Proof.Machine

/-! ### The own STATUS -/

/-- The mode a STATUS reports (R176, R177). -/
def reportedMode (s : State) : ReportedMode :=
  match s.loader.mode with
  | .configFault => .configFault
  | .maintenance => .maintenance
  | .starting | .operating | .warmReset => .operating

/-- The bay summary of a STATUS: an unconfigured bay is EMPTY (R24, R176). -/
def baySummary (s : State) (b : BayIdx) : BayState := if bayConfigured s b then s.bays[b].state else .empty

/-- The STATUS of a node in service (R176). -/
def serviceStatus (s : State) : StatusPayload :=
  { mode := reportedMode s, period := s.loader.period
    bays := #v[baySummary s 0, baySummary s 1, baySummary s 2, baySummary s 3]
    zonePresent := hasZone s, zoneState := if hasZone s then s.zone.state else .air
    zoneAge := if hasZone s then BitVec.ofNat 16 (zoneAge s) else 0
    freeSlots := Fin.ofNat 5 (freeSlots s), accepting := accepting s, classes := raisedClasses s
    fireSections := fireSections s, thermalSections := thermalSections s
    leading := Fin.ofNat 67 (((leadingCause s).map rowPosition).getD 0)
    lockout := hasZone s && decide (s.zone.state = .lockout), fault := 0 }

/-- The STATUS of a node in CONFIG_FAULT (R177). -/
def faultStatus (s : State) : StatusPayload :=
  { mode := .configFault, period := s.loader.period, bays := #v[.empty, .empty, .empty, .empty], zonePresent := false
    zoneState := .air, zoneAge := 0, freeSlots := 0, accepting := false, classes := 0, fireSections := 0, thermalSections := 0
    leading := 0, lockout := false, fault := s.loader.faultCode }

/-- The STATUS built at the start of an attempt (R176, R177). -/
def buildStatus (s : State) : StatusPayload := if s.loader.mode = .configFault then faultStatus s else serviceStatus s

/-- The node sends STATUS frames: in service and in CONFIG_FAULT (R175, R177). -/
def sendsStatus (s : State) : Bool := inService s || decide (s.loader.mode = .configFault)

/-- The slot becomes pending; the 2 × P watch runs in service, from the due time (R175, R178). -/
def statusFallsDue (s : State) (at_ : Nat) : State :=
  updBus s fun u =>
    { u with statusPending := true, statusDueAt := none
             watchUntil := if inService s then some (at_ + 2 * periodOfNode s) else none }

/-- STATUS_DUE (R175, R178). -/
def execStatusDue (s : State) : Host.Outcome State Fault Refusal :=
  .next (match s.bus.statusDueAt with
    | some t => if sendsStatus s && !s.bus.statusPending && decide (t ≤ s.now) then statusFallsDue s t else s
    | none => s)

/-- TRANSMIT_BLOCKED_WATCH (R178). -/
def execTransmitBlockedWatch (s : State) : Host.Outcome State Fault Refusal :=
  whenServing s fun s =>
    if s.bus.statusPending && due s s.bus.watchUntil then
      settle (updBus s fun u => { u with blocked := true, watchUntil := none })
    else s

/-! ### Attempts -/

/-- The frame an attempt takes: TRIP(FIRE), TRIP(THERMAL), STATUS, the oldest handover frame, the oldest REPLY; in CONFIG_FAULT the STATUS
alone; none in STARTING and in a warm reset (R185, R186). -/
def chooseFrame (s : State) : Option TxFrame :=
  if inService s then
    (s.bus.tripFire.map (TxFrame.trip .fire)).or <| (s.bus.tripThermal.map (TxFrame.trip .thermal)).or <|
      (if s.bus.statusPending then some (TxFrame.status (buildStatus s)) else none).or <|
        (s.bus.handover.head?.map TxFrame.handover).or (s.bus.replies.head?.map TxFrame.reply)
  else if decide (s.loader.mode = .configFault) && s.bus.statusPending then some (.status (buildStatus s))
  else none

/-- TRANSMIT_ATTEMPT: with a frame to send, no backoff and no attempt running. That the bus has been idle for 2 slot times is the sender's
to know (R181, R185, R186; log 21). -/
def execTransmitAttempt (s : State) : Host.Outcome State Fault Refusal :=
  .next (match s.bus.attempt, s.bus.backoffUntil, chooseFrame s with
    | none, none, some f => updBus s fun u => { u with attempt := some { frame := f, seq := u.sequence, held := true } }
    | _, _, _ => s)

/-- COLLISION: the frame stays in its source, and a backoff of 1 to 8 slot times starts (R187; the draw is free, log 8). -/
def execCollision (s : State) : Host.Outcome State Fault Refusal :=
  .next (match s.bus.attempt with
    | some _ =>
      let slots := (Config.backoffDraw s.freeIndex).val + 1
      { updBus s fun u => { u with attempt := none, backoffUntil := some (s.now + Config.slotTime * slots) } with
        freeIndex := s.freeIndex + 1 }
    | none => s)

/-- BACKOFF_EXPIRY (R187). -/
def execBackoffExpiry (s : State) : Host.Outcome State Fault Refusal :=
  .next (if due s s.bus.backoffUntil then updBus s fun u => { u with backoffUntil := none } else s)

/-! ### A frame leaves -/

/-- A TRIP has left: the sections it carried are taken out of the pending set of its class (R142). -/
def tripRemains (pending : Option Sections) (carried : Sections) : Option Sections :=
  match pending with
  | none => none
  | some p => if p &&& ~~~carried = 0 then none else some (p &&& ~~~carried)

/-- The OFFER of a bay has left: its QUEUED entry goes OUT with the answer window (R71). -/
def offerLeaves (s : State) (o : OfferPayload) : State :=
  if h : o.originBay.toNat < 4 then
    updHandover s ⟨o.originBay.toNat, h⟩ fun x =>
      match x.entry with
      | .queued id d t => { x with entry := .out id d t (s.now + 4 * periodOfNode s) }
      | .none | .out _ _ _ _ => x
  else s

/-- A handover frame that its FIFO still holds has left (R71, R188). -/
def handoverLeaves (s : State) (f : HandoverFrame) : State :=
  let t := updBus s fun u => { u with handover := u.handover.drop 1 }
  match f.body with
  | .offer o => offerLeaves t o
  | .accept _ | .decline _ _ | .withdraw _ | .landed _ => t

/-- The source and the owner of a frame take its leaving (R71, R142, R175, R178, R188). -/
def sourceLeaves (s : State) (a : Attempt) : State :=
  match a.frame with
  | .trip .fire carried => updBus s fun u => { u with tripFire := tripRemains u.tripFire carried }
  | .trip .thermal carried => updBus s fun u => { u with tripThermal := tripRemains u.tripThermal carried }
  | .status _ =>
    updBus s fun u =>
      { u with statusPending := false, statusDueAt := some (s.now + periodOfNode s), watchUntil := none, blocked := false }
  | .handover f => if a.held then handoverLeaves s f else s
  | .reply _ => updBus s fun u => { u with replies := u.replies.drop 1 }

/-- The attempt ends without collision (R181, R188). -/
def frameLeft (s : State) (a : Attempt) : State :=
  sourceLeaves (updBus s fun u => { u with attempt := none, sequence := u.sequence + 1 }) a

/-- FRAME_LEAVES (R71, R142, R175, R178, R181, R188). -/
def execFrameLeaves (s : State) : Host.Outcome State Fault Refusal :=
  .next (match s.bus.attempt with
    | some a => if inService s then settle (frameLeft s a) else frameLeft s a
    | none => s)

/-! ### The bytes of an attempt (10.1, R181, R182) -/

/-- Coding of a result code (10.1). -/
def resultCode : ResultCode → Nat
  | .done => 1 | .state => 2 | .notFound => 3 | .full => 4 | .range => 5 | .duplicate => 6 | .permit => 7 | .mode => 8
  | .class_ => 9 | .queue => 10 | .notTerminal => 11

/-- Kind and payload of a handover frame (10.1). -/
def handoverPayload : HandoverBody → Byte × List Byte
  | .offer o => (3, offerBytes o)
  | .accept id => (4, packIdBytes id)
  | .decline id r => (5, packIdBytes id ++ [codeByte (declineCode r)])
  | .withdraw id => (6, packIdBytes id)
  | .landed id => (7, packIdBytes id)

/-- The bytes of a REPLY from byte 3 on: none for a refusal and for a DONE without items, and else bytes whose widths are open, as many as
a payload of 48 bytes has room for (10.1, R181, R191; log 10). -/
def replyItems : ReplyPayload → List Byte
  | .none => []
  | p => (Config.replyBytes p).toList.take (Config.replyLength p).val

/-- The bytes of a REPLY (10.1). -/
def replyPayload (r : Reply) : List Byte := [r.kind, r.seq, codeByte (resultCode r.result)] ++ replyItems r.payload

/-- Destination, kind and payload of a frame (R181). -/
def framePayload : TxFrame → Addr × Byte × List Byte
  | .trip c sections => (broadcast, 2, [codeByte (tripClassCode c), sections])
  | .status p => (broadcast, 1, statusBytes p)
  | .handover f => (f.dest, (handoverPayload f.body).1, (handoverPayload f.body).2)
  | .reply r => (r.dest, 9, replyPayload r)

/-- The bytes that an attempt puts on the bus (R181, R182). -/
def attemptBytes (s : State) (a : Attempt) : List Byte :=
  let (dest, kind, payload) := framePayload a.frame
  frameBytes { line := s.loader.lineId, sender := s.loader.address, dest := dest, seq := a.seq } kind payload

/-! ### Frames that reach no block -/

/-- FRAME_DISCARDED: nothing changes (R182, R183). -/
def execFrameDiscarded (_raw : List Byte) (s : State) : Host.Outcome State Fault Refusal := .next s

/-- REPLY_RECEIVED: a node discards every REPLY (R184). -/
def execReplyReceived (_h : Header) (_payload : List Byte) (s : State) : Host.Outcome State Fault Refusal := .next s

end Sys2Proof.Machine
end

