-- ==== Sys2Proof/Machine/Requests.lean ====
section
/-! DEFINITION. The requests of the line terminals that change the node (10.6), each under the rules that own it. -/

namespace Sys2Proof.Machine

/-- A request taken and answered; nothing but its header is read when it does not reach request intake (R190, R192). -/
def request (h : Header) (kind : Byte) (execute : State → Answer) (s : State) : Host.Outcome State Fault Refusal :=
  .next (takeRequest s h kind execute)

/-- DONE with a state that has settled. -/
def doneSettled (s : State) : Answer := done (settle s)

/-- REQUEST_MALFORMED: a refusal with RANGE (R190). -/
def execRequestMalformed (h : Header) (kind : Byte) (s : State) : Host.Outcome State Fault Refusal :=
  request h kind (fun s => refuse s .range) s

/-! ### Admission -/

/-- The thresholds of a class and a cell count (R12). -/
def deriveThresholds (s : State) (cls : Fin 4) (cells : Nat) : Thresholds :=
  let c := (cfg s).classes[cls]
  { vend := cells * c.vendCell / 10, vrel := cells * c.vrelCell / 10, iend := c.iend }

/-- The record that an ADMIT creates (R49, R53). -/
def admittedRecord (s : State) (b : BayIdx) (id : PackId) (cls : Fin 4) (cells : Nat) (edecl : Option Nat) : PackRecord :=
  { id := some id, stage := .atBay, bay := some b, origin := none, dest := none, cls := some cls, cells := some cells
    edecl := edecl, qdis := 0, edis := 0, residual := edecl, acc := some { qa := 0, ea := 0 }, rebounds := 0
    restPassed := false, degraded := false, thermal := false, admittedAt := nodeTime s, stageSince := nodeTime s
    unanswered := 0, deadline := none }

/-- The measurement unit at an ADMIT: thresholds taken, the seven comparators cleared, the ring emptied (R11, R12, R18). -/
def admitMeasure (t : Thresholds) (m : BayMeasure) : BayMeasure :=
  { m with
    thresholds := some t, ring := [], cvEnd := comparatorReset, cvRel := comparatorReset, ciEnd := comparatorReset
    ciMax := comparatorReset, ciRev := comparatorReset, ctOver := comparatorReset, ctRise := comparatorReset }

/-- The bay controller at an ADMIT (R27). -/
def admitBay (x : Bay) : Bay :=
  { x with
    state := .admitted, ret := none, restUntil := none, backoffUntil := none, endArmed := false, reason := none
    foundAtStart := false }

/-- An ADMIT that passes every check (R27, R53). -/
def admitPack (s : State) (b : BayIdx) (r : PackRecord) (t : Thresholds) : State :=
  updBay (updMeas (updCounters (addRecord s r) fun c => { c with admitted := c.admitted + 1 }) b (admitMeasure t)) b admitBay

/-- The figures of an ADMIT lie inside their ranges: the first check of R52 but for the bay. -/
def admitInRange (id : PackId) (cls cells : Byte) (edecl : Option (BitVec 24)) : Bool :=
  decide (cls.toNat ≤ 3) && decide (1 ≤ cells.toNat ∧ cells.toNat ≤ 250) && edecl.all (fun e => decide (e.toNat ≤ 1000000)) &&
    packIdOk id

/-- The checks of R52 in their order, and the admission. -/
def admitAnswer (bay : Byte) (id : PackId) (cls cells : Byte) (edecl : Option (BitVec 24)) (s : State) : Answer :=
  match bayArg s bay with
  | none => refuse s .range
  | some b =>
    if !admitInRange id cls cells edecl then refuse s .range
    else if s.bays[b].state ≠ .loaded then refuse s .state
    else if (recordOfId s id).isSome then refuse s .duplicate
    else if !recordFree s then refuse s .full
    else
      let c : Fin 4 := Fin.ofNat 4 cls.toNat
      let t := deriveThresholds s c cells.toNat
      if 65534 < t.vend ∨ 65534 < t.vrel then refuse s .range
      else
        let a := admitPack s b (admittedRecord s b id c cells.toNat (edecl.map BitVec.toNat)) t
        { result := .done, payload := .admitted a.packs.records.length t.vend t.vrel t.iend, state := settle a }

/-- ADMIT (R12, R27, R52 to R54). -/
def execAdmit (h : Header) (bay : Byte) (id : PackId) (cls cells : Byte) (edecl : Option (BitVec 24)) (s : State) :
    Host.Outcome State Fault Refusal :=
  request h 1 (admitAnswer bay id cls cells edecl) s

/-! ### Bays -/

/-- START in its states (R29). -/
def startAnswer (bay : Byte) (s : State) : Answer :=
  match bayArg s bay with
  | none => refuse s .range
  | some b =>
    if s.bays[b].state = .admitted then
      if connectPermit s b then doneSettled (enterConnecting s b) else refuse s .permit
    else refuse s .state

/-- START (R24, R29). -/
def execStart (h : Header) (bay : Byte) (s : State) : Host.Outcome State Fault Refusal := request h 2 (startAnswer bay) s

/-- REJECT in its states (R42). -/
def rejectAnswer (bay : Byte) (s : State) : Answer :=
  match bayArg s bay with
  | none => refuse s .range
  | some b =>
    match s.bays[b].state with
    | .empty | .loaded => refuse s .state
    | .quarantine => done s
    | .admitted | .connecting | .discharging | .resting | .held | .safe | .offering | .releasing =>
      doneSettled (enterQuarantine s b .rejected)

/-- REJECT (R24, R42). -/
def execReject (h : Header) (bay : Byte) (s : State) : Host.Outcome State Fault Refusal := request h 3 (rejectAnswer bay) s

/-- One more pack cleared (R61). -/
def countCleared (s : State) : State := updCounters s fun c => { c with cleared := c.cleared + 1 }

/-- The record of a quarantined bay is removed and the bay emptied (R43, R63). -/
def clearBay (s : State) (b : BayIdx) : State :=
  emptyBay (countCleared (updRecords (countEnergyOfBay s b) fun l => l.eraseP (isAtBay b))) b

/-- CLEAR(bay) in its states (R43, R63). A bay in QUARANTINE holds a record in every state that a run reaches. -/
def clearBayAnswer (bay : Byte) (s : State) : Answer :=
  match bayArg s bay with
  | none => refuse s .range
  | some b =>
    match recordOfBay s b with
    | none => refuse s .state
    | some r =>
      if s.bays[b].state = .quarantine ∧ s.meas[b].pp.filtered = false then
        { result := .done, payload := .clearedPack r.id s.bays[b].reason r.restPassed r.degraded r.thermal
          state := settle (clearBay s b) }
      else refuse s .state

/-- CLEAR(bay) (R24, R43, R62, R63). -/
def execClearBay (h : Header) (bay : Byte) (s : State) : Host.Outcome State Fault Refusal := request h 4 (clearBayAnswer bay) s

/-- The record is UNIDENTIFIED. -/
def isUnidentified (r : PackRecord) : Bool := decide (r.stage = .unidentified)

/-- CLEAR(chute): the first UNIDENTIFIED record in table order (R64). -/
def clearChuteAnswer (s : State) : Answer :=
  match s.packs.records.find? isUnidentified with
  | none => refuse s .notFound
  | some r =>
    { result := .done, payload := .clearedChute r.admittedAt
      state := settle (countCleared (updRecords s fun l => l.eraseP isUnidentified)) }

/-- CLEAR(chute) (R64). -/
def execClearChute (h : Header) (s : State) : Host.Outcome State Fault Refusal := request h 4 clearChuteAnswer s

/-- RESOLVE-LOST in the stages of its record (R65). -/
def resolveLostAnswer (id : PackId) (s : State) : Answer :=
  match recordOfId s id with
  | none => refuse s .notFound
  | some r =>
    if r.stage = .missing then
      doneSettled (updCounters (removeRecordOfId s id) fun c => { c with lost := c.lost + 1 })
    else refuse s .state

/-- RESOLVE-LOST (R65). -/
def execResolveLost (h : Header) (id : PackId) (s : State) : Host.Outcome State Fault Refusal := request h 5 (resolveLostAnswer id) s

/-! ### Zone -/

/-- ZONE-START in its states (R90, R93). -/
def zoneStartAnswer (s : State) : Answer :=
  if hasZone s ∧ s.zone.state = .air then
    if purgePermit s && !zoneHeld s then doneSettled (enterPurging s) else refuse s .permit
  else refuse s .state

/-- ZONE-START (R90, R93). -/
def execZoneStart (h : Header) (s : State) : Host.Outcome State Fault Refusal := request h 6 zoneStartAnswer s

/-- ZONE-STOP in its states (R90, R105). -/
def zoneStopAnswer (s : State) : Answer :=
  if hasZone s then
    match s.zone.state with
    | .air => done s
    | .purging | .inert | .ready | .alarm =>
      if s.zone.queue = [] ∧ claimCount s = 0 then doneSettled (enterAir s) else refuse s .queue
    | .running | .fire | .lockout => refuse s .state
  else refuse s .state

/-- ZONE-STOP (R90, R105). -/
def execZoneStop (h : Header) (s : State) : Host.Outcome State Fault Refusal := request h 7 zoneStopAnswer s

/-- RUN in its states (R90, R98). -/
def runAnswer (s : State) : Answer :=
  if hasZone s then
    match s.zone.state with
    | .ready => if runPermit s then doneSettled (enterRunning s) else refuse s .permit
    | .running => done s
    | .air | .purging | .inert | .alarm | .fire | .lockout => refuse s .state
  else refuse s .state

/-- RUN (R90, R98). -/
def execRun (h : Header) (s : State) : Host.Outcome State Fault Refusal := request h 8 runAnswer s

/-- HALT in its states (R90, R98). -/
def haltAnswer (s : State) : Answer :=
  if hasZone s then
    match s.zone.state with
    | .running => doneSettled (enterReady s)
    | .ready => done s
    | .air | .purging | .inert | .alarm | .fire | .lockout => refuse s .state
  else refuse s .state

/-- HALT (R90, R98). -/
def execHalt (h : Header) (s : State) : Host.Outcome State Fault Refusal := request h 9 haltAnswer s

/-! ### Causes -/

/-- The rows whose acknowledged flag an ACK sets (R129). -/
def ackRows (s : State) (scope : Option CauseClass) : List Row :=
  allRows.filter fun r => raised s r && !(rowState s r).acked && scope.all fun c => decide (rowClass r = c)

/-- ACK over a scope (R129). -/
def ackAnswer (scope : Byte) (s : State) : Answer :=
  match ackScope scope with
  | none => refuse s .range
  | some c =>
    { result := .done, payload := .count (ackRows s c).length
      state := (ackRows s c).foldl (fun u r => updRow u r fun x => { x with acked := true }) s }

/-- ACK (R129). -/
def execAck (h : Header) (scope : Byte) (s : State) : Host.Outcome State Fault Refusal := request h 10 (ackAnswer scope) s

/-- A row that a RESET lowers: latched, raised, its condition false, acknowledged (R130). -/
def resettable (s : State) (r : Row) : Bool :=
  latched r && raised s r && !(rowState s r).condition && (rowState s r).acked

/-- The table after a RESET, before its readers act (R130). -/
def resetRows (s : State) : State := (allRows.filter (resettable s)).foldl lowerRow s

/-- RESET, answered with the rows still raised (R130). -/
def resetAnswer (s : State) : Answer :=
  { result := .done, payload := .count (raisedRows (resetRows s)).length, state := settle (resetRows s) }

/-- RESET (R130). -/
def execReset (h : Header) (s : State) : Host.Outcome State Fault Refusal := request h 11 resetAnswer s

/-- Every inhibit ends (R140). -/
def endInhibits (s : State) : State :=
  updCauses s fun c => { c with rows := c.rows.map fun x => { x with inhibit := none } }

/-- The node takes a mode (R203). -/
def setMode (s : State) (m : Mode) : State := updLoader s fun l => { l with mode := m }

/-- MAINT(on) (R138). -/
def maintOnAnswer (s : State) : Answer := done (setMode s .maintenance)

/-- MAINT(on) as a request (R138). -/
def execMaintOn (h : Header) (s : State) : Host.Outcome State Fault Refusal := request h 12 maintOnAnswer s

/-- MAINT(off) (R138, R140). -/
def maintOffAnswer (s : State) : Answer :=
  if s.loader.mode = .maintenance then doneSettled (endInhibits (setMode s .operating)) else done s

/-- MAINT(off) as a request (R138, R140). -/
def execMaintOff (h : Header) (s : State) : Host.Outcome State Fault Refusal := request h 12 maintOffAnswer s

/-- The checks of R139 in their order, and the inhibit. -/
def inhibitAnswer (row : Byte) (seconds : BitVec 16) (s : State) : Answer :=
  if s.loader.mode ≠ .maintenance then refuse s .mode
  else
    match rowAt row.toNat with
    | none => refuse s .range
    | some r =>
      if !(decide (1 ≤ seconds.toNat ∧ seconds.toNat ≤ 1800) && rowConfigured s r) then refuse s .range
      else if ¬(rowClass r = .line ∨ rowClass r = .account) then refuse s .class_
      else if (rowState s r).inhibit = none ∧ Config.inhibitSize ≤ (inhibitedRows s).length then refuse s .full
      else
        let t := updRow s r fun x => { x with inhibit := some (s.now + seconds.toNat * Config.second) }
        { result := .done, payload := .count (inhibitedRows t).length, state := settle t }

/-- INHIBIT (R139, R140). -/
def execInhibit (h : Header) (row : Byte) (seconds : BitVec 16) (s : State) : Host.Outcome State Fault Refusal :=
  request h 13 (inhibitAnswer row seconds) s

end Sys2Proof.Machine
end

