-- ==== Sys2Proof/Machine/Queries.lean ====
section
/-! DEFINITION. The queries of the line terminals (R24, R66, R67, R145, R146): each changes nothing and answers with figures. -/

namespace Sys2Proof.Machine

/-- DONE with items and nothing changed (R191). -/
def report (s : State) (p : ReplyPayload) : Answer := { result := .done, payload := p, state := s }

/-! ### Packs -/

/-- A record as a query reports it: QA and EA left out, its position, and the time to its deadline in 100 ms counts (R66). -/
def recordView (s : State) (r : PackRecord) (position : Nat) : RecordView :=
  { record := { r with acc := none }, position := position
    remaining := remaining s (r.deadline.map fun d => d * Config.count) (10 * Config.count) }

/-- The bay controller's view of a bay (R24). -/
def bayView (s : State) (b : BayIdx) : BayView :=
  { state := s.bays[b].state
    ret := if s.bays[b].state = .held then s.bays[b].ret else none
    holds := holdRows s b, permitLost := permitLost s b
    restRemaining := remaining s s.bays[b].restUntil Config.second
    backoffRemaining := remaining s s.bays[b].backoffUntil Config.second
    reason := if s.bays[b].state = .quarantine then s.bays[b].reason else none
    lastDecline := s.handover[b].lastDecline
    record := (recordOfBay s b).map fun r => recordView s r (s.packs.records.findIdx (isAtBay b) + 1) }

/-- The record was received from another station: it has an origin station that is not the own address (R49). -/
def received (s : State) (r : PackRecord) : Bool := r.origin.any fun a => decide (a ≠ s.loader.address)

/-- A record's summary: the bay of a record created by ADMIT, the origin station of a received one (R66). -/
def summaryOf (s : State) (r : PackRecord) : RecordSummary :=
  { id := r.id, stage := r.stage, bay := if received s r then none else r.bay
    origin := if received s r then r.origin else none, dest := r.dest }

/-- QUERY-PACK by pack ID (R66). -/
def queryPackIdAnswer (id : PackId) (s : State) : Answer :=
  match recordOfId s id with
  | none => refuse s .notFound
  | some r => report s (.pack (recordView s r (s.packs.records.findIdx (hasId id) + 1)))

/-- QUERY_PACK_ID (R66). -/
def execQueryPackId (h : Header) (id : PackId) (s : State) : Host.Outcome State Fault Refusal :=
  request h 14 (queryPackIdAnswer id) s

/-- QUERY-PACK by bay (R24, R66). -/
def queryPackBayAnswer (bay : Byte) (s : State) : Answer :=
  match bayArg s bay with
  | none => refuse s .range
  | some b => report s (.bay (bayView s b))

/-- QUERY_PACK_BAY (R24, R66). -/
def execQueryPackBay (h : Header) (bay : Byte) (s : State) : Host.Outcome State Fault Refusal :=
  request h 14 (queryPackBayAnswer bay) s

/-- QUERY-PACK by table position: the records held and up to three summaries (R66). -/
def queryPackPositionAnswer (position : Byte) (s : State) : Answer :=
  if 1 ≤ position.toNat ∧ position.toNat ≤ 24 then
    report s (.list s.packs.records.length (((s.packs.records.drop (position.toNat - 1)).take 3).map (summaryOf s)))
  else refuse s .range

/-- QUERY_PACK_POSITION (R66). -/
def execQueryPackPosition (h : Header) (position : Byte) (s : State) : Host.Outcome State Fault Refusal :=
  request h 14 (queryPackPositionAnswer position) s

/-! ### Causes and log -/

/-- The section set and originators of a remote row (R146). -/
def remoteView (s : State) : Row → Option Remote
  | .fd5 => some s.causes.remoteFire
  | .th3 => some s.causes.remoteThermal
  | _ => none

/-- A row as a query reports it (R146). -/
def rowView (s : State) (r : Row) : RowView :=
  let x := rowState s r
  { row := r, condition := x.condition, raised := x.raised, acked := x.acked, inhibitRemaining := remaining s x.inhibit Config.second
    firstOut := x.firstOut, episode := x.episode, onset := x.onset, logEntry := x.logEntry, remote := remoteView s r }

/-- The raised or inhibited rows from a position on (R146). -/
def rowsFrom (s : State) (position : Nat) : List Row :=
  allRows.filter fun r => decide (position ≤ rowPosition r) && (raised s r || (rowState s r).inhibit.isSome)

/-- QUERY-CAUSES (R146). -/
def queryCausesAnswer (position : Byte) (s : State) : Answer :=
  if 1 ≤ position.toNat ∧ position.toNat ≤ 66 then
    report s (.causes s.causes.episode (leadingCause s) (raisedRows s).length (inhibitedRows s).length
      (((rowsFrom s position.toNat).take 2).map (rowView s)))
  else refuse s .range

/-- QUERY_CAUSES (R146). -/
def execQueryCauses (h : Header) (position : Byte) (s : State) : Host.Outcome State Fault Refusal :=
  request h 15 (queryCausesAnswer position) s

/-- The entries of a log that a QUERY-LOG from number n carries: from n, or from the oldest when n is earlier, up to four; none when n is
later than the newest (R145). -/
def entriesFrom (log : List LogEntry) (n : BitVec 16) : List LogEntry :=
  match log.getLast? with
  | none => []
  | some newest =>
    let back := (newest.number - n).toNat
    if 32767 < back then [] else (log.drop (log.length - 1 - back)).take 4

/-- The numbers of the oldest and the newest entry held (R145). -/
def logBounds (log : List LogEntry) : Option (BitVec 16 × BitVec 16) :=
  match log.head?, log.getLast? with
  | some a, some b => some (a.number, b.number)
  | _, _ => none

/-- QUERY-LOG (R145). -/
def queryLogAnswer (n : BitVec 16) (s : State) : Answer :=
  report s (.log (logBounds s.causes.log) s.causes.log.length (entriesFrom s.causes.log n))

/-- QUERY_LOG (R145). -/
def execQueryLog (h : Header) (entry : BitVec 16) (s : State) : Host.Outcome State Fault Refusal :=
  request h 16 (queryLogAnswer entry) s

/-! ### Counts -/

/-- The number of records in a stage (R67). -/
def stageCount (s : State) (st : Stage) : Nat := (s.packs.records.filter fun r => decide (r.stage = st)).length

/-- The number of records not in stage RESERVED (R61). -/
def custodyCount (s : State) : Nat := (s.packs.records.filter fun r => decide (r.stage ≠ .reserved)).length

/-- The left side of the custody balance (R61). -/
def custodyLeft (s : State) : BitVec 32 := s.packs.counters.admitted + s.packs.counters.handedIn

/-- The right side of the custody balance (R61). -/
def custodyRight (s : State) : BitVec 32 :=
  s.packs.counters.handedOut + s.packs.counters.shredded + s.packs.counters.cleared + s.packs.counters.lost +
    BitVec.ofNat 32 (custodyCount s)

/-- QUERY-COUNTS (R67). -/
def queryCountsAnswer (s : State) : Answer :=
  report s (.counts s.packs.counters s.packs.dischargedTotal s.packs.shreddedTotal
    #v[stageCount s .atBay, stageCount s .inTransit, stageCount s .missing, stageCount s .reserved, stageCount s .waiting,
      stageCount s .feeding, stageCount s .unidentified]
    (custodyLeft s) (custodyRight s))

/-- QUERY_COUNTS (R67). -/
def execQueryCounts (h : Header) (s : State) : Host.Outcome State Fault Refusal := request h 17 queryCountsAnswer s

end Sys2Proof.Machine
end

