-- ==== Sys2Proof/Machine/Validation.lean ====
section
/-! DEFINITION. The checks of a configuration image (R196, R198, R199). -/

namespace Sys2Proof.Machine

/-! ### What was read -/

/-- The length field of the header (R196). -/
def imageLength (memory : List Byte) : Nat := (word16At memory 1).toNat

/-- The memory answered every read, and the length field lies in its range: check 1 of R198. -/
def readCompletes (memory : List Byte) : Bool :=
  decide (5 ≤ memory.length ∧ 5 ≤ imageLength memory ∧ imageLength memory ≤ 1024 ∧ imageLength memory ≤ memory.length)

/-- The bytes of the image (R196). -/
def imageBytes (memory : List Byte) : List Byte := memory.take (imageLength memory)

/-- Check 2: the check value over every byte but its own two (11.2). -/
def checkValueOk (memory : List Byte) : Bool :=
  let img := imageBytes memory
  crc16 (img.take 3 ++ img.drop 5) == word16At img 3

/-- Check 3: the format number (11.2). -/
def formatOk (memory : List Byte) : Bool := byteAt memory 0 == 1#8

/-! ### Ranges (R199) -/

/-- A number inside a range, both ends included. -/
def within (lo hi n : Nat) : Bool := decide (lo ≤ n ∧ n ≤ hi)

/-- A temperature threshold inside its range (11.2). -/
def thresholdOk (t : Int) : Bool := decide (-400 ≤ t ∧ t ≤ 2000)

/-- The greatest index of a kind of literal; `none` for a kind without one (R156, R157). -/
def literalLimit : LiteralKind → Option Nat
  | .general => some 7
  | .dwell => some 15
  | .zoneReady | .zoneRunning => none
  | .bayDischarging | .baySafe => some 3
  | .peerFresh | .peerZoneReady | .peerZoneRunning | .peerAccepting | .peerTripFree | .peerLockout => some 11

/-- A literal of a kind of 11.2 with an index exactly where the kind has one, inside its range (R199). -/
def literalFormed (l : Literal) : Bool :=
  match l.kind with
  | none => false
  | some k =>
    match literalLimit k, l.index with
    | some m, some i => decide (i ≤ m)
    | none, none => true
    | _, _ => false

/-- A class inside its ranges (11.2). -/
def classOk (c : ClassConfig) : Bool := within 1 5000 c.vendCell && within 1 5000 c.vrelCell && within 1 32767 c.iend

/-- Zone fields inside their ranges (11.2). -/
def zoneOk (z : ZoneConfig) : Bool :=
  within 0 7 z.section_ && within 0 2500 z.o2inert && within 0 2500 z.o2top && within 0 2500 z.o2warn && within 10 500 z.tol &&
    within 60 3600 z.purgeLimit && within 10 600 z.settle && within 10 600 z.flood && within 5 300 z.feedLimit &&
    within 0 1000000 z.acceptLimit

/-- The bays at and below the bay count have a section and a destination inside their ranges; the others are not judged (R199). -/
def baysOk (i : ImageBody) : Bool :=
  decide (i.bayCount ≤ i.bays.length) &&
    (i.bays.take i.bayCount).all fun b => within 0 7 b.section_ && within 1 62 b.dest

/-- The terms of one permit. -/
def termCount (i : ImageBody) (p : Option Permit) : Nat := (i.siteTerms.filter fun t => decide (t.permit = p)).length

/-- A site term of one of the eleven permits, which has at most three, with one to four formed literals (R199). -/
def termOk (i : ImageBody) (t : SiteTerm) : Bool :=
  t.permit.isSome && decide (termCount i t.permit ≤ 3) && within 1 4 t.literals.length && t.literals.all literalFormed

/-- A timer definition inside its ranges (11.2). -/
def timerOk (t : TimerDef) : Bool := within 0 15 t.number && within 1 65535 t.preset && literalFormed t.input

/-- Line and measurement fields inside their ranges (11.2). -/
def lineFieldsOk (i : ImageBody) : Bool :=
  within 1 2 i.terminals.length && i.terminals.all (within 1 62) && within 0 12 i.watched.length && i.watched.all (within 1 62) &&
    within 10 600 i.transitLimit && decide (i.samplePeriod ∈ [5, 10, 20, 50]) && within 1 8 i.ke && within 1 8 i.kt &&
    within 1 8 i.kg && within 1 8 i.kh && within 1 8 i.kd

/-- Bay fields inside their ranges (11.2). -/
def bayFieldsOk (i : ImageBody) : Bool :=
  within 0 4 i.bayCount && baysOk i && i.classes.toList.all classOk && within 1 32767 i.imax && within 1 32767 i.irev &&
    thresholdOk i.tover && within 1 100 i.rlim && within 10 3600 i.restInterval && within 0 3 i.maxRebounds && within 0 100 i.pmin &&
    within 0 1000000 i.releaseLimit && within 1 60 i.offerBackoff

/-- Zone and fire fields inside their ranges; the zone fields only when a zone is present (11.2). -/
def zoneFieldsOk (i : ImageBody) : Bool :=
  within 0 1 i.zonePresent && (decide (i.zonePresent = 0) || (i.zone.map zoneOk).getD false) && within 1 60 i.window &&
    within 1 120 i.tconf && thresholdOk i.hfire && within 1 2550 i.swarn && within 1 2550 i.sfire

/-- Permit fields inside their ranges (11.2, R199). -/
def permitFieldsOk (i : ImageBody) : Bool := within 0 16 i.timers.length && i.timers.all timerOk && i.siteTerms.all (termOk i)

/-- Every field of the body inside its range: check 4 but for line ID and period code. -/
def rangesOk (i : ImageBody) : Bool := lineFieldsOk i && bayFieldsOk i && zoneFieldsOk i && permitFieldsOk i

/-! ### The checks from 5 onward (R198) -/

/-- The zone of an image that has one. -/
def imageZone (i : ImageBody) : Option ZoneConfig := if i.zonePresent = 1 then i.zone else none

/-- Check 5: orderings. -/
def orderingsOk (i : ImageBody) : Bool :=
  i.classes.toList.all (fun c => decide (c.vendCell < c.vrelCell)) &&
    (imageZone i).all (fun z => decide (z.o2inert < z.o2top ∧ z.o2top < z.o2warn ∧ z.o2warn ≤ 2100)) && decide (i.swarn < i.sfire)

/-- Check 6: addresses. -/
def addressesOk (own : Nat) (i : ImageBody) : Bool :=
  decide (own ≠ 0 ∧ own ≠ 63) && decide (own ∉ i.watched) && decide (own ∉ i.terminals) && decide i.watched.Nodup

/-- Check 7: destinations. -/
def destinationsOk (own : Nat) (i : ImageBody) : Bool :=
  (i.bays.take i.bayCount).all fun b =>
    if b.dest = own then decide (i.zonePresent = 1) else decide (b.dest ∈ i.watched)

/-- Check 8: no timer is defined twice. -/
def timersOnce (i : ImageBody) : Bool := decide (i.timers.map TimerDef.number).Nodup

/-- Check 9: no timer takes its own done flag. -/
def timersNotSelf (i : ImageBody) : Bool :=
  i.timers.all fun t => !(decide (t.input.kind = some .dwell ∧ t.input.index = some t.number))

/-- A literal names what the image has (check 10). -/
def literalNamed (i : ImageBody) (l : Literal) : Bool :=
  let n := l.index.getD 0
  match l.kind with
  | some .peerFresh | some .peerZoneReady | some .peerZoneRunning | some .peerAccepting | some .peerTripFree | some .peerLockout =>
    decide (n < i.watched.length)
  | some .dwell => i.timers.any fun t => decide (t.number = n)
  | some .bayDischarging | some .baySafe => decide (n < i.bayCount)
  | some .general | some .zoneReady | some .zoneRunning | none => true

/-- Check 10: literals of timers and of site terms. -/
def literalsOk (i : ImageBody) : Bool :=
  i.timers.all (fun t => literalNamed i t.input) && i.siteTerms.all fun t => t.literals.all (literalNamed i)

/-- Check 11: the five classes, each once. -/
def rankingOk (i : ImageBody) : Bool := decide (i.ranking.toList.Nodup ∧ CauseClass.fire ∉ i.ranking.toList)

/-! ### Validation -/

/-- The image that the bytes hold when every field of it is there and inside its range (checks 1 to 4). -/
def decodedImage (fields : ImageFields) : Option Image :=
  match fields.lineId, fields.periodCode.bind periodOf, fields.body with
  | some line, some p, some body =>
    if within 1 255 line && rangesOk body then some { lineId := line, period := p, body := body } else none
  | _, _, _ => none

/-- The code of the first check from 5 onward that fails, 0 when none does. -/
def judgeImage (own : Nat) (i : ImageBody) : Fin 12 :=
  if !orderingsOk i then 5
  else if !addressesOk own i then 6
  else if !destinationsOk own i then 7
  else if !timersOnce i then 8
  else if !timersNotSelf i then 9
  else if !literalsOk i then 10
  else if !rankingOk i then 11
  else 0

/-- The configuration fault code of a load (R198). -/
def validate (own : Nat) (memory : List Byte) (fields : ImageFields) : Fin 12 :=
  if !readCompletes memory then 1
  else if !checkValueOk memory then 2
  else if !formatOk memory then 3
  else
    match decodedImage fields with
    | none => 4
    | some i => judgeImage own i.body

end Sys2Proof.Machine
end

