-- ==== Sys2Proof/Machine/Resets.lean ====
section
/-! DEFINITION. Cold reset, the end of the image load, RESTART and the end of the warm reset (10.5, 11). -/

namespace Sys2Proof.Machine

/-! ### Cold reset and load -/

/-- COLD_RESET: every piece of state at its reset value, and the pins read (R195, R196, R203). The queue of commands and the index of the
free values are the model's own and stay. -/
def execColdReset (pins : BitVec 6) (s : State) : Host.Outcome State Fault Refusal :=
  .next
    { State.reset with
      loader := { loaderReset with address := pins.setWidth 8 }, freeIndex := s.freeIndex, pending := s.pending }

/-- The STATUS falls due and its watch and the start window start, at the entry to OPERATING (R174, R175, R178). -/
def startService (s : State) : State :=
  updBus { s with startUntil := some (s.now + 4 * periodOfNode s) } fun u =>
    { u with statusPending := true, watchUntil := some (s.now + 2 * periodOfNode s) }

/-- The node enters OPERATING with a validated image (R202). -/
def enterOperating (s : State) (i : Image) : State :=
  let s := updLoader s fun l =>
    { l with mode := .operating, image := some i, lineId := BitVec.ofNat 8 i.lineId, period := i.period, faultCode := 0 }
  startService (updZone s fun z => { z with since := nodeCount s })

/-- The line ID that a faulted node uses: the image's where it was read through check 1 and lies in 1 to 255 (R201). -/
def faultLine (code : Fin 12) (fields : ImageFields) : Byte :=
  match fields.lineId with
  | some l => if code ≠ 1 ∧ within 1 255 l then BitVec.ofNat 8 l else 0
  | none => 0

/-- The period that a faulted node uses: the image's where its field holds one of the three codes, whichever check failed, and 200 ms
otherwise (R177). -/
def faultPeriod (fields : ImageFields) : Period := (fields.periodCode.bind periodOf).getD .p200

/-- The node enters CONFIG_FAULT (R177, R201). -/
def enterConfigFault (s : State) (code : Fin 12) (fields : ImageFields) : State :=
  let s := updLoader s fun l =>
    { l with mode := .configFault, lineId := faultLine code fields, period := faultPeriod fields, faultCode := code }
  updBus s fun u => { u with statusPending := true }

/-- The load ends and is validated at that event (R198). -/
def endLoad (s : State) (memory : List Byte) (fields : ImageFields) : State :=
  let code := validate s.loader.address.toNat memory fields
  match decodedImage fields with
  | some i => if code = 0 then settle (enterOperating s i) else enterConfigFault s code fields
  | none => enterConfigFault s code fields

/-- LOAD_END (R196 to R202): acts while the load runs. -/
def execLoadEnd (memory : List Byte) (fields : ImageFields) (s : State) : Host.Outcome State Fault Refusal :=
  .next (if s.loader.mode = .starting then endLoad s memory fields else s)

/-! ### Warm reset (10.5) -/

/-- Thresholds derived again from a record (R23). -/
def rederive (s : State) (r : PackRecord) : Option Thresholds :=
  match r.cls, r.cells with
  | some c, some n => some (deriveThresholds s c n)
  | _, _ => none

/-- The measurement unit of one bay at a warm reset (R23). -/
def warmMeasure (s : State) (b : BayIdx) : BayMeasure :=
  { bayMeasureReset with thresholds := (recordOfBay s b).bind (rederive s) }

/-- A bay state at a warm reset (R48). DEDUCED: the table has no row for an ADMITTED bay, and the model keeps it ADMITTED (log 36). -/
def warmBayState : BayState → BayState
  | .connecting | .discharging | .resting | .held => .admitted
  | .offering => .safe
  | .empty => .empty
  | .loaded => .loaded
  | .admitted => .admitted
  | .safe => .safe
  | .releasing => .releasing
  | .quarantine => .quarantine

/-- An opening window is running. -/
def openingRuns (w : ContactorWindow) : Bool :=
  match w with
  | .opening _ => true
  | .none | .closing _ => false

/-- A bay controller at a warm reset (R25, R48). -/
def warmBay (s : State) (b : BayIdx) (x : Bay) : Bay :=
  { x with
    state := warmBayState x.state, ret := none
    window := if coilOn s b || openingRuns x.window then .opening (s.now + Config.contactorWindow) else .none
    endArmed := false, restUntil := none, backoffUntil := none, presencePending := true, ppSeen := 0, rgUntil := none
    mismatch := false }

/-- The zone controller at a warm reset (R110). -/
def warmZone (s : State) : State :=
  match s.zone.state with
  | .purging | .inert | .ready | .running | .alarm => enterAir s
  | .air | .fire | .lockout => s

/-- The fire logic at a warm reset: each of FD1 to FD4 whose condition the cause table sees true is held, and a zone in FIRE is kept there
(R122). -/
def warmFire (s : State) : Fire :=
  { det := Vector.replicate 4 detectorReset, fd1 := false
    held := #v[conditionOf s .fd1, conditionOf s .fd2, conditionOf s .fd3, conditionOf s .fd4], reformUntil := none
    zoneKept := decide (s.zone.state = .fire) }

/-- What RESTART does in each block (R23, R48, R69, R89, R110, R122, R148, R165, R180, R193, R194). -/
def enterWarmReset (s : State) (terminal : Addr) (seq : Byte) : State :=
  let z := endInhibits (warmZone s)
  { z with
    secondsDue := 0
    loader := { s.loader with mode := .warmReset, restart := some { endAt := s.now + Config.warmReset, terminal := terminal, seq := seq } }
    meas := Vector.ofFn (warmMeasure s), zmeas := zoneMeasureReset
    bays := Vector.ofFn fun b => warmBay s b s.bays[b]
    handover := s.handover.map fun x => { x with entry := .none }
    fire := warmFire s, timers := Vector.replicate 16 timerReset, peers := Vector.replicate 12 peerReset, startUntil := none
    bus := { busReset with sequence := s.bus.sequence } }

/-- RESTART as request intake takes it: executed with no REPLY queued (R190, R193). -/
def takeRestart (s : State) (h : Header) : State :=
  if isTerminal s h.sender then
    if replyFree s then enterWarmReset s h.sender h.seq else s
  else if replyFree s then queueReply s (replyTo h 18 .notTerminal .none) else s

/-- RESTART (R190, R192, R193). -/
def execRestart (h : Header) (s : State) : Host.Outcome State Fault Refusal :=
  .next (if heardOwn s h then takeRestart s h else s)

/-- A record's deadline that fell during the reset expires (R69, R193). -/
def expireOverdue (s : State) (id : PackId) : State :=
  if deadlineReached s id then expireReservation (expireTransit s id) id else s

/-- Every deadline and timer that fell during the reset expires: records in table order, then the feed deadline, then the flood timer
(R69, R110, R193; log 11). -/
def expireAll (s : State) : State :=
  let t := (s.packs.records.filterMap PackRecord.id).foldl expireOverdue s
  let t := if due t t.zone.feedUntil then expireFeed t else t
  if due t t.zone.floodUntil then expireFlood t else t

/-- The node leaves the warm reset, as one event for the first-out mark (R122, R131, R138, R174, R175, R193; log 35). -/
def leaveWarmReset (s : State) (r : Restarting) : State :=
  let t := updLoader s fun l => { l with mode := .operating, restart := none }
  let t := updFire (startService t) fun f =>
    { f with reformUntil := if hasZone t then some (t.now + ((cfg t).tconf + 1) * Config.second) else none }
  let t := queueReply t { dest := r.terminal, kind := 18, seq := r.seq, result := .done, payload := .none }
  markFirstOut s (settle (expireAll t))

/-- WARM_RESET_END: acts once the 50 ms have run (R193). -/
def execWarmResetEnd (s : State) : Host.Outcome State Fault Refusal :=
  .next (match s.loader.mode, s.loader.restart with
    | .warmReset, some r => if r.endAt ≤ s.now then leaveWarmReset s r else s
    | _, _ => s)

end Sys2Proof.Machine
end

