-- ==== Sys2Proof/Machine/Dispatch.lean ====
section
/-! DEFINITION. One arm per command of the opcode table, each a call of its meaning. -/

namespace Sys2Proof.Machine

def exec (i : Instr) (s : State) : Host.Outcome State Fault Refusal :=
  match i with
  | .coldReset pins => Sys2Proof.Machine.execColdReset pins s
  | .loadEnd memory fields => Sys2Proof.Machine.execLoadEnd memory fields s
  | .pairArrival b v vValid c cValid => Sys2Proof.Machine.execPairArrival b v vValid c cValid s
  | .tbArrival b tb => Sys2Proof.Machine.execTbArrival b tb s
  | .zoneArrival o2a o2b h1 h2 => Sys2Proof.Machine.execZoneArrival o2a o2b h1 h2 s
  | .discreteArrival levels => Sys2Proof.Machine.execDiscreteArrival levels s
  | .spArrival pulses => Sys2Proof.Machine.execSpArrival pulses s
  | .secondBoundary => Sys2Proof.Machine.execSecondBoundary s
  | .closingWindowExpiry b => Sys2Proof.Machine.execClosingWindowExpiry b s
  | .openingWindowExpiry b => Sys2Proof.Machine.execOpeningWindowExpiry b s
  | .restTimerExpiry b => Sys2Proof.Machine.execRestTimerExpiry b s
  | .offerBackoffExpiry b => Sys2Proof.Machine.execOfferBackoffExpiry b s
  | .rgPulseEnd b => Sys2Proof.Machine.execRgPulseEnd b s
  | .fpPulseEnd => Sys2Proof.Machine.execFpPulseEnd s
  | .offerQueueExpiry b => Sys2Proof.Machine.execOfferQueueExpiry b s
  | .answerWindowExpiry b => Sys2Proof.Machine.execAnswerWindowExpiry b s
  | .transitDeadlineExpiry id => Sys2Proof.Machine.execTransitDeadlineExpiry id s
  | .reservationExpiry id => Sys2Proof.Machine.execReservationExpiry id s
  | .feedDeadlineExpiry => Sys2Proof.Machine.execFeedDeadlineExpiry s
  | .purgeTimerExpiry => Sys2Proof.Machine.execPurgeTimerExpiry s
  | .settleTimerExpiry => Sys2Proof.Machine.execSettleTimerExpiry s
  | .floodTimerExpiry => Sys2Proof.Machine.execFloodTimerExpiry s
  | .persistenceTimerExpiry n => Sys2Proof.Machine.execPersistenceTimerExpiry n s
  | .reformationTimerExpiry => Sys2Proof.Machine.execReformationTimerExpiry s
  | .dwellTimerStep d => Sys2Proof.Machine.execDwellTimerStep d s
  | .inhibitExpiry r => Sys2Proof.Machine.execInhibitExpiry r s
  | .stalenessDeadlineExpiry p => Sys2Proof.Machine.execStalenessDeadlineExpiry p s
  | .startWindowExpiry => Sys2Proof.Machine.execStartWindowExpiry s
  | .statusDue => Sys2Proof.Machine.execStatusDue s
  | .transmitBlockedWatch => Sys2Proof.Machine.execTransmitBlockedWatch s
  | .transmitAttempt => Sys2Proof.Machine.execTransmitAttempt s
  | .collision => Sys2Proof.Machine.execCollision s
  | .backoffExpiry => Sys2Proof.Machine.execBackoffExpiry s
  | .frameLeaves => Sys2Proof.Machine.execFrameLeaves s
  | .frameDiscarded raw => Sys2Proof.Machine.execFrameDiscarded raw s
  | .status h p => Sys2Proof.Machine.execStatus h p s
  | .trip h cls sections => Sys2Proof.Machine.execTrip h cls sections s
  | .offer h o => Sys2Proof.Machine.execOffer h o s
  | .accept h id => Sys2Proof.Machine.execAccept h id s
  | .decline h id reason => Sys2Proof.Machine.execDecline h id reason s
  | .withdraw h id => Sys2Proof.Machine.execWithdraw h id s
  | .landed h id => Sys2Proof.Machine.execLanded h id s
  | .replyReceived h payload => Sys2Proof.Machine.execReplyReceived h payload s
  | .requestMalformed h kind => Sys2Proof.Machine.execRequestMalformed h kind s
  | .admitPack h bay id cls cells edecl => Sys2Proof.Machine.execAdmit h bay id cls cells edecl s
  | .start h bay => Sys2Proof.Machine.execStart h bay s
  | .reject h bay => Sys2Proof.Machine.execReject h bay s
  | .clearBay h bay => Sys2Proof.Machine.execClearBay h bay s
  | .clearChute h => Sys2Proof.Machine.execClearChute h s
  | .resolveLost h id => Sys2Proof.Machine.execResolveLost h id s
  | .zoneStart h => Sys2Proof.Machine.execZoneStart h s
  | .zoneStop h => Sys2Proof.Machine.execZoneStop h s
  | .run h => Sys2Proof.Machine.execRun h s
  | .halt h => Sys2Proof.Machine.execHalt h s
  | .ack h scope => Sys2Proof.Machine.execAck h scope s
  | .reset h => Sys2Proof.Machine.execReset h s
  | .maintOn h => Sys2Proof.Machine.execMaintOn h s
  | .maintOff h => Sys2Proof.Machine.execMaintOff h s
  | .inhibit h row seconds => Sys2Proof.Machine.execInhibit h row seconds s
  | .queryPackId h id => Sys2Proof.Machine.execQueryPackId h id s
  | .queryPackBay h bay => Sys2Proof.Machine.execQueryPackBay h bay s
  | .queryPackPosition h position => Sys2Proof.Machine.execQueryPackPosition h position s
  | .queryCauses h position => Sys2Proof.Machine.execQueryCauses h position s
  | .queryLog h entry => Sys2Proof.Machine.execQueryLog h entry s
  | .queryCounts h => Sys2Proof.Machine.execQueryCounts h s
  | .restart h => Sys2Proof.Machine.execRestart h s
  | .warmResetEnd => Sys2Proof.Machine.execWarmResetEnd s

end Sys2Proof.Machine
end

