-- ==== Sys2Proof/Safety.lean ====
section
/-! DEFINITION. What statements about the node speak of: the invariants of a run, what the reactions of an event leave alone, and when a
received frame or request reaches its block. -/

namespace Sys2Proof.Machine

/-! ### Invariants -/

/-- The custody balance of R61. -/
def CustodyBalanced (s : State) : Prop := custodyLeft s = custodyRight s

/-- At most 24 records, and no two with one pack ID (R50, R51). -/
def TableSound (s : State) : Prop :=
  s.packs.records.length ≤ Config.tableSize ∧ (s.packs.records.filterMap PackRecord.id).Nodup

/-- The zone is locked out with no pulse running (R104). -/
def LockedOut (s : State) : Prop := s.zone.state = .lockout ∧ s.zone.fpUntil = none

/-- The zone is in FIRE and is kept there: it was in FIRE at a warm reset, and the re-formation interval has not ended (R122). -/
def FireKept (s : State) : Prop := s.fire.zoneKept = true ∧ s.zone.state = .fire

/-- No zone output is on (R91). -/
def ZoneOutputsOff (s : State) : Prop := outSR s = false ∧ outFP s = false ∧ outPV s = false ∧ outFV s = false

/-- An FP pulse runs in a RUNNING zone alone; the zone is AIR in STARTING and CONFIG_FAULT, and AIR, FIRE or LOCKOUT inside a warm reset
(R91, R109, R110, R200). -/
def OutputsSound (s : State) : Prop :=
  (s.zone.fpUntil ≠ none → s.zone.state = .running) ∧
    (s.loader.mode = .starting ∨ s.loader.mode = .configFault → s.zone.state = .air) ∧
    (s.loader.mode = .warmReset → s.zone.state = .air ∨ s.zone.state = .fire ∨ s.zone.state = .lockout)

/-- A RUNNING zone has no latched row of the FIRE or ATMOSPHERE class raised (R98). -/
def RunsClear (s : State) : Prop := s.zone.state = .running → chamberTripped s = false

/-- A self-clearing row is raised exactly while its condition is true (R126). -/
def SelfClearingSound (s : State) : Prop := ∀ r, latched r = false → raised s r = (rowState s r).condition

/-- The infeed queue: no two slots for one record, every slot's record in one of the four stages of a slot, WAITING and FEEDING ones ahead
of RESERVED and IN_TRANSIT ones, FEEDING at the head alone, and an IN_TRANSIT one of an internal release (R83, R87, R106). -/
def QueueSound (s : State) : Prop :=
  s.zone.queue.Nodup ∧
    (∃ ahead behind, s.zone.queue = ahead ++ behind ∧
      (∀ id ∈ ahead, slotStage s id = some .waiting ∨ slotStage s id = some .feeding) ∧
      ∀ id ∈ behind, slotStage s id = some .reserved ∨ slotStage s id = some .inTransit) ∧
    (∀ id ∈ s.zone.queue.tail, slotStage s id ≠ some .feeding) ∧
    ∀ id ∈ s.zone.queue, ∀ r, recordOfId s id = some r → r.stage = .inTransit → r.origin = some s.loader.address

/-- Slots and internal claims number at most four, and a bay releasing toward the own zone holds its claim (R87, R106). -/
def PlacesSound (s : State) : Prop :=
  placesTaken s ≤ Config.queueSize ∧
    ∀ b : BayIdx, s.bays[b].state = .releasing → (recordOfBay s b).bind PackRecord.dest = some s.loader.address →
      s.handover[b].claim = true

/-- The queues, lists and FIFOs keep within their sizes (10.3, R133, R143). -/
def SizesSound (s : State) : Prop :=
  s.bus.handover.length ≤ Config.handoverSize ∧ s.bus.replies.length ≤ Config.replySize ∧
    (s.loader.mode = .warmReset → s.bus.replies = []) ∧ s.causes.log.length ≤ Config.logSize ∧
    s.causes.remoteFire.originators.length ≤ Config.originatorSize ∧
    s.causes.remoteThermal.originators.length ≤ Config.originatorSize

/-- The entries of the trip log are numbered without a gap, the newest one below the next number (R143). -/
def LogSound (s : State) : Prop :=
  ∀ (k : Nat) (e : LogEntry), s.causes.log[k]? = some e → e.number = s.causes.nextEntry - BitVec.ofNat 16 (s.causes.log.length - k)

/-- Out of service no TRIP, handover frame or REPLY waits (R186). -/
def SilentSourcesEmpty (s : State) : Prop :=
  inService s = false → s.bus.tripFire = none ∧ s.bus.tripThermal = none ∧ s.bus.handover = [] ∧ s.bus.replies = []

/-- The timer definitions of an image that passed validation: numbers 0 to 15, each once, presets from 1 (R159, R198). -/
def DefsSound (defs : List TimerDef) : Prop :=
  (defs.map TimerDef.number).Nodup ∧ ∀ t ∈ defs, t.number < 16 ∧ 1 ≤ t.preset

/-- A dwell timer against its definition: within its preset, DONE exactly at the preset, IDLE at 0; IDLE at 0 without a definition
(R159, R161). -/
def TimerSound (def_ : Option TimerDef) (t : Timer) : Prop :=
  match def_ with
  | none => t.state = .idle ∧ t.elapsed = 0
  | some d => t.elapsed ≤ d.preset ∧ (t.state = .done ↔ t.elapsed = d.preset) ∧ (t.state = .idle → t.elapsed = 0)

/-- Every dwell timer is sound, and nothing is loaded while the load still runs (R159, R161, R196). -/
def TimersSound (s : State) : Prop :=
  (s.loader.mode = .starting → s.loader.image = none) ∧ DefsSound (cfg s).timers ∧
    ∀ d : Fin 16, TimerSound (timerDef s d.val) s.timers[d]

/-! ### What reactions leave alone -/

/-- Two records differ at most in what reactions write: the thermal and rest-passed marks, rebounds, destination, deadline, and a feed
start. -/
structure SameFigures (r t : PackRecord) : Prop where
  id : t.id = r.id
  stage : t.stage = r.stage ∨ (r.stage = .waiting ∧ t.stage = .feeding)
  bay : t.bay = r.bay
  origin : t.origin = r.origin
  cls : t.cls = r.cls
  cells : t.cells = r.cells
  edecl : t.edecl = r.edecl
  qdis : t.qdis = r.qdis
  edis : t.edis = r.edis
  residual : t.residual = r.residual
  acc : t.acc = r.acc
  degraded : t.degraded = r.degraded
  admittedAt : t.admittedAt = r.admittedAt
  unanswered : t.unanswered = r.unanswered

/-- What the reactions of an event leave as its own effect left it. They write bay and zone states, offers and claims, rows and the log,
dwell timers, pending TRIPs and handover frames, and of records what SameFigures allows. -/
structure ReactionFrame (s t : State) : Prop where
  now : t.now = s.now
  secondsDue : t.secondsDue = s.secondsDue
  loader : t.loader = s.loader
  meas : t.meas = s.meas
  zmeas : t.zmeas = s.zmeas
  fire : t.fire = s.fire
  peers : t.peers = s.peers
  startUntil : t.startUntil = s.startUntil
  pending : t.pending = s.pending
  counters : t.packs.counters = s.packs.counters
  dischargedTotal : t.packs.dischargedTotal = s.packs.dischargedTotal
  shreddedTotal : t.packs.shreddedTotal = s.packs.shreddedTotal
  records : List.Forall₂ SameFigures s.packs.records t.packs.records
  queue : t.zone.queue = s.zone.queue
  remoteFire : t.causes.remoteFire = s.causes.remoteFire
  remoteThermal : t.causes.remoteThermal = s.causes.remoteThermal
  statusPending : t.bus.statusPending = s.bus.statusPending
  statusDueAt : t.bus.statusDueAt = s.bus.statusDueAt
  watchUntil : t.bus.watchUntil = s.bus.watchUntil
  blocked : t.bus.blocked = s.bus.blocked
  replies : t.bus.replies = s.bus.replies
  backoffUntil : t.bus.backoffUntil = s.bus.backoffUntil
  sequence : t.bus.sequence = s.bus.sequence

/-- A command answers the state u with the reactions that u sets off, and these leave alone what ReactionFrame lists. -/
def AnswersSettled (o : Host.Outcome State Fault Refusal) (u : State) : Prop := o = .next (settle u) ∧ ReactionFrame u (settle u)

/-- A discrete arrival answers the state u with its reactions, and with the first-out mark that the arrival as one event leaves (R131). -/
def AnswersArrival (o : Host.Outcome State Fault Refusal) (s u : State) : Prop :=
  o = .next (markFirstOut s (settle u)) ∧ ReactionFrame u (markFirstOut s (settle u))

/-- The commands in service that set off no reaction: resets, the end of a pulse, what the transmitter does before a frame leaves, a second
boundary on a node without a zone, an acknowledgement, and MAINTENANCE begun. -/
def setsOffNothing : Instr → Bool
  | .coldReset _ | .restart _ | .rgPulseEnd _ | .fpPulseEnd | .statusDue | .transmitAttempt | .collision | .backoffExpiry
  | .secondBoundary | .ack _ _ | .maintOn _ => true
  | _ => false

/-! ### The fields of an image (11.2, R199) -/

/-- The six kinds of literal that read a peer (R157). -/
def peerKind : Option LiteralKind → Bool
  | some .peerFresh | some .peerZoneReady | some .peerZoneRunning | some .peerAccepting | some .peerTripFree | some .peerLockout => true
  | some .general | some .dwell | some .zoneReady | some .zoneRunning | some .bayDischarging | some .baySafe | none => false

/-- A literal carries an index in the range of its kind, and none where its kind has none. -/
def LiteralInRange (l : Literal) : Prop :=
  (l.kind = some .general ∧ ∃ n, l.index = some n ∧ n ≤ 7) ∨ (l.kind = some .dwell ∧ ∃ n, l.index = some n ∧ n ≤ 15) ∨
    ((l.kind = some .zoneReady ∨ l.kind = some .zoneRunning) ∧ l.index = none) ∨
    ((l.kind = some .bayDischarging ∨ l.kind = some .baySafe) ∧ ∃ n, l.index = some n ∧ n ≤ 3) ∨
    (peerKind l.kind = true ∧ ∃ n, l.index = some n ∧ n ≤ 11)

/-- Terminals, watched list, transit limit, T and the filter lengths. -/
def LineFieldsInRange (i : ImageBody) : Prop :=
  (1 ≤ i.terminals.length ∧ i.terminals.length ≤ 2) ∧ (∀ a ∈ i.terminals, 1 ≤ a ∧ a ≤ 62) ∧ i.watched.length ≤ 12 ∧
    (∀ a ∈ i.watched, 1 ≤ a ∧ a ≤ 62) ∧ (10 ≤ i.transitLimit ∧ i.transitLimit ≤ 600) ∧
    (i.samplePeriod = 5 ∨ i.samplePeriod = 10 ∨ i.samplePeriod = 20 ∨ i.samplePeriod = 50) ∧
    ∀ k ∈ [i.ke, i.kt, i.kg, i.kh, i.kd], 1 ≤ k ∧ k ≤ 8

/-- Bays, chemistry classes and limits. The section and destination of a bay at or above the bay count are not judged. -/
def BayFieldsInRange (i : ImageBody) : Prop :=
  i.bayCount ≤ 4 ∧
    (∀ b < i.bayCount, ∃ c, i.bays[b]? = some c ∧ c.section_ ≤ 7 ∧ 1 ≤ c.dest ∧ c.dest ≤ 62) ∧
    (∀ k : Fin 4, (1 ≤ i.classes[k].vendCell ∧ i.classes[k].vendCell ≤ 5000) ∧
      (1 ≤ i.classes[k].vrelCell ∧ i.classes[k].vrelCell ≤ 5000) ∧ 1 ≤ i.classes[k].iend ∧ i.classes[k].iend ≤ 32767) ∧
    (1 ≤ i.imax ∧ i.imax ≤ 32767) ∧ (1 ≤ i.irev ∧ i.irev ≤ 32767) ∧ (-400 ≤ i.tover ∧ i.tover ≤ 2000) ∧
    (1 ≤ i.rlim ∧ i.rlim ≤ 100) ∧ (10 ≤ i.restInterval ∧ i.restInterval ≤ 3600) ∧ i.maxRebounds ≤ 3 ∧ i.pmin ≤ 100 ∧
    i.releaseLimit ≤ 1000000 ∧ 1 ≤ i.offerBackoff ∧ i.offerBackoff ≤ 60

/-- Zone and fire fields; the zone's only when a zone is present. -/
def ZoneFieldsInRange (i : ImageBody) : Prop :=
  (i.zonePresent = 0 ∨ i.zonePresent = 1 ∧ ∃ z, i.zone = some z ∧
    z.section_ ≤ 7 ∧ z.o2inert ≤ 2500 ∧ z.o2top ≤ 2500 ∧ z.o2warn ≤ 2500 ∧ (10 ≤ z.tol ∧ z.tol ≤ 500) ∧
    (60 ≤ z.purgeLimit ∧ z.purgeLimit ≤ 3600) ∧ (10 ≤ z.settle ∧ z.settle ≤ 600) ∧ (10 ≤ z.flood ∧ z.flood ≤ 600) ∧
    (5 ≤ z.feedLimit ∧ z.feedLimit ≤ 300) ∧ z.acceptLimit ≤ 1000000) ∧
    (1 ≤ i.window ∧ i.window ≤ 60) ∧ (1 ≤ i.tconf ∧ i.tconf ≤ 120) ∧ (-400 ≤ i.hfire ∧ i.hfire ≤ 2000) ∧
    (1 ≤ i.swarn ∧ i.swarn ≤ 2550) ∧ 1 ≤ i.sfire ∧ i.sfire ≤ 2550

/-- Dwell timers and site terms. -/
def PermitFieldsInRange (i : ImageBody) : Prop :=
  i.timers.length ≤ 16 ∧ (∀ t ∈ i.timers, t.number ≤ 15 ∧ 1 ≤ t.preset ∧ t.preset ≤ 65535 ∧ LiteralInRange t.input) ∧
    ∀ t ∈ i.siteTerms, t.permit ≠ none ∧ (i.siteTerms.filter fun u => decide (u.permit = t.permit)).length ≤ 3 ∧
      1 ≤ t.literals.length ∧ t.literals.length ≤ 4 ∧ ∀ l ∈ t.literals, LiteralInRange l

/-! ### Measurement -/

/-- The record of the pack in bay b after a pair: the degraded mark while a clamp flag is set (R3), and the interval integrated where
R13 has it, from the channels and the contact that m holds. -/
def pairTakenBy (s : State) (b : BayIdx) (m : BayMeasure) (r : PackRecord) : PackRecord :=
  let marked := if m.v.clamp = true ∨ m.i.clamp = true then { r with degraded := true } else r
  match m.v.value, m.i.value with
  | some v, some i =>
    if m.kf.filtered = true ∧ s.bays[b].state ≠ .safe ∧ s.bays[b].state ≠ .offering ∧ s.bays[b].state ≠ .releasing then
      integrateRecord (cfg s).samplePeriod v i marked
    else marked
  | _, _ => marked

/-- The figure an oxygen channel brings to O2eff: 25.00 % vol when INVALID, else its value in use (R19). -/
def oxygenReads (c : Channel) : Option Int := if c.status = .invalid then some 2500 else c.value

/-- The level that a discrete arrival brings to an input. -/
def levelOf (levels : List (DiscreteInput × Bool)) (x : DiscreteInput) : Option Bool :=
  (levels.find? fun y => decide (y.1 = x)).map Prod.snd

/-- An input's comparator after a discrete arrival: one decision where the arrival brings a level to a configured input (R6, R8). -/
def decidedBy (s : State) (levels : List (DiscreteInput × Bool)) (x : DiscreteInput) (c : Comparator) : Comparator :=
  match levelOf levels x with
  | some l => if inputConfigured s x = true then pushDecision (cfg s).kd l c else c
  | none => c

/-- An arrival of one level makes the input rise. -/
def rises (s : State) (x : DiscreteInput) : Prop :=
  inService s = true ∧ inputConfigured s x = true ∧ inputFiltered s x = false ∧ inputFiltered (pushInput s (x, true)) x = true

/-- An arrival of one level makes the input fall. -/
def falls (s : State) (x : DiscreteInput) : Prop :=
  inService s = true ∧ inputConfigured s x = true ∧ inputFiltered s x = true ∧ inputFiltered (pushInput s (x, false)) x = false

/-! ### Reaching a block -/

/-- A request reaches request intake from a terminal, with room for its REPLY (R190). -/
def requestTaken (s : State) (h : Header) : Bool := heardOwn s h && isTerminal s h.sender && replyFree s

/-- A refusal: nothing changes but the REPLY that carries its code (R189, R191). -/
def Refuses (o : Host.Outcome State Fault Refusal) (s : State) (h : Header) (kind : Byte) (c : ResultCode) : Prop :=
  o = .next (queueReply s (replyTo h kind c .none))

/-- A request carried out: the reactions of u, and the REPLY with DONE and its items (R190, R191). -/
def Performs (o : Host.Outcome State Fault Refusal) (u : State) (h : Header) (kind : Byte) (p : ReplyPayload) : Prop :=
  o = .next (queueReply (settle u) (replyTo h kind .done p)) ∧ ReactionFrame u (settle u)

/-- A request answered DONE with nothing else changed (R189, R191). -/
def Reports (o : Host.Outcome State Fault Refusal) (s : State) (h : Header) (kind : Byte) (p : ReplyPayload) : Prop :=
  o = .next (queueReply s (replyTo h kind .done p))

/-- The commands that stand for a received frame carry its header. -/
def headerOf : Instr → Option Header
  | .status h _ | .trip h _ _ | .offer h _ | .accept h _ | .decline h _ _ | .withdraw h _ | .landed h _ | .replyReceived h _
  | .requestMalformed h _ | .admitPack h _ _ _ _ _ | .start h _ | .reject h _ | .clearBay h _ | .clearChute h | .resolveLost h _
  | .zoneStart h | .zoneStop h | .run h | .halt h | .ack h _ | .reset h | .maintOn h | .maintOff h | .inhibit h _ _
  | .queryPackId h _ | .queryPackBay h _ | .queryPackPosition h _ | .queryCauses h _ | .queryLog h _ | .queryCounts h
  | .restart h => some h
  | .coldReset _ | .loadEnd _ _ | .pairArrival _ _ _ _ _ | .tbArrival _ _ | .zoneArrival _ _ _ _ | .discreteArrival _
  | .spArrival _ | .secondBoundary | .closingWindowExpiry _ | .openingWindowExpiry _ | .restTimerExpiry _
  | .offerBackoffExpiry _ | .rgPulseEnd _ | .fpPulseEnd | .offerQueueExpiry _ | .answerWindowExpiry _
  | .transitDeadlineExpiry _ | .reservationExpiry _ | .feedDeadlineExpiry | .purgeTimerExpiry | .settleTimerExpiry
  | .floodTimerExpiry | .persistenceTimerExpiry _ | .reformationTimerExpiry | .dwellTimerStep _ | .inhibitExpiry _
  | .stalenessDeadlineExpiry _ | .startWindowExpiry | .statusDue | .transmitBlockedWatch | .transmitAttempt | .collision
  | .backoffExpiry | .frameLeaves | .frameDiscarded _ | .warmResetEnd => none

/-- The kind byte of a request (10.1); none for a command that is no request. -/
def requestKind : Instr → Option Byte
  | .requestMalformed _ kind => some kind
  | .admitPack _ _ _ _ _ _ => some 1
  | .start _ _ => some 2
  | .reject _ _ => some 3
  | .clearBay _ _ | .clearChute _ => some 4
  | .resolveLost _ _ => some 5
  | .zoneStart _ => some 6
  | .zoneStop _ => some 7
  | .run _ => some 8
  | .halt _ => some 9
  | .ack _ _ => some 10
  | .reset _ => some 11
  | .maintOn _ | .maintOff _ => some 12
  | .inhibit _ _ _ => some 13
  | .queryPackId _ _ | .queryPackBay _ _ | .queryPackPosition _ _ => some 14
  | .queryCauses _ _ => some 15
  | .queryLog _ _ => some 16
  | .queryCounts _ => some 17
  | .restart _ => some 18
  | .coldReset _ | .loadEnd _ _ | .pairArrival _ _ _ _ _ | .tbArrival _ _ | .zoneArrival _ _ _ _ | .discreteArrival _
  | .spArrival _ | .secondBoundary | .closingWindowExpiry _ | .openingWindowExpiry _ | .restTimerExpiry _
  | .offerBackoffExpiry _ | .rgPulseEnd _ | .fpPulseEnd | .offerQueueExpiry _ | .answerWindowExpiry _
  | .transitDeadlineExpiry _ | .reservationExpiry _ | .feedDeadlineExpiry | .purgeTimerExpiry | .settleTimerExpiry
  | .floodTimerExpiry | .persistenceTimerExpiry _ | .reformationTimerExpiry | .dwellTimerStep _ | .inhibitExpiry _
  | .stalenessDeadlineExpiry _ | .startWindowExpiry | .statusDue | .transmitBlockedWatch | .transmitAttempt | .collision
  | .backoffExpiry | .frameLeaves | .frameDiscarded _ | .warmResetEnd | .status _ _ | .trip _ _ _ | .offer _ _ | .accept _ _
  | .decline _ _ _ | .withdraw _ _ | .landed _ _ | .replyReceived _ _ => none

/-- The arrivals of the field lines (01). -/
def isArrival : Instr → Bool
  | .pairArrival _ _ _ _ _ | .tbArrival _ _ | .zoneArrival _ _ _ _ | .discreteArrival _ | .spArrival _ | .secondBoundary => true
  | _ => false

end Sys2Proof.Machine
end

