-- ==== Sys2Proof/Certificates/Slice0/Obligations.lean ====
section
/-! DEFINITION. The statements for the provers: steps and resets, the commands family by family, the rules of the whole machine, and the
invariants that every step keeps. -/

open Sys2Proof Sys2Proof.Machine

/-! ### Steps, resets, modes -/

/-- A step with command c at the front of the queue is c on the state with the queue's rest (the model's own rule, log 24). -/
def Obligations.StepRunsFront : Prop :=
  ∀ (c : Instr) (rest : List Instr) (s : State), s.pending = c :: rest → step s = exec c { s with pending := rest }

/-- A COLD_RESET from any state leaves the values of State.reset with the own address read from the pins, and the second clause names them.
They are those the chapters give, but for these of the model's own: the line ID 0 and the period of 200 ms before the load (log 5), the
cleared count of second boundaries (log 1), the mark of a zone kept in FIRE (log 38), the queue of commands and the index of free values,
which stay (log 23, log 24). -/
def Obligations.ColdResetLeavesResetValues : Prop :=
  (∀ (pins : BitVec 6) (s : State),
    exec (.coldReset pins) s =
      .next { State.reset with
        loader := { State.reset.loader with address := pins.setWidth 8 }, freeIndex := s.freeIndex, pending := s.pending }) ∧
  (let r := State.reset
   let ch : Channel := { status := .noSample, value := none, run := 0, clamp := false }
   let co : Comparator := { history := 0, filtered := false }
   r.now = 0 ∧ r.secondsDue = 0 ∧ r.loader.mode = .starting ∧ r.loader.restart = none ∧ r.loader.image = none ∧
   r.loader.lineId = 0 ∧ r.loader.period = .p200 ∧ r.loader.faultCode = 0 ∧ r.startUntil = none ∧
   (∀ b : BayIdx,
      (r.meas[b].v = ch ∧ r.meas[b].i = ch ∧ r.meas[b].tb = ch) ∧
      (r.meas[b].cvEnd = co ∧ r.meas[b].cvRel = co ∧ r.meas[b].ciEnd = co ∧ r.meas[b].ciMax = co ∧ r.meas[b].ciRev = co ∧
        r.meas[b].ctOver = co ∧ r.meas[b].ctRise = co ∧ r.meas[b].pp = co ∧ r.meas[b].kf = co) ∧
      r.meas[b].ring = [] ∧ r.meas[b].thresholds = none ∧
      r.bays[b] =
        { state := .empty, ret := none, window := .none, endArmed := false, restUntil := none, backoffUntil := none, reason := none
          presencePending := true, ppSeen := 0, rgUntil := none, mismatch := false, removed := false, foundAtStart := false } ∧
      r.handover[b] = { entry := .none, lastDecline := none, claim := false }) ∧
   (r.zmeas.o2a = ch ∧ r.zmeas.o2b = ch ∧ r.zmeas.h1 = ch ∧ r.zmeas.h2 = ch ∧ r.zmeas.coInert = co ∧ r.zmeas.coTop = co ∧
     r.zmeas.coWarn = co ∧ r.zmeas.coDis = co ∧ r.zmeas.chFire1 = co ∧ r.zmeas.chFire2 = co ∧ r.zmeas.dc = co ∧ r.zmeas.ar = co ∧
     r.zmeas.fc = co) ∧
   (∀ n : Fin 4, r.zmeas.d[n] = co ∧ r.fire.held[n] = false ∧
      r.fire.det[n] = { active := false, onset := none, persistUntil := none, persisted := false }) ∧
   r.fire.fd1 = false ∧ r.fire.reformUntil = none ∧ r.fire.zoneKept = false ∧
   (∀ n : Fin 8, r.zmeas.g[n] = co) ∧ r.zmeas.spark = [0, 0, 0, 0, 0, 0, 0, 0, 0, 0] ∧
   r.packs.records = [] ∧ r.packs.dischargedTotal = 0 ∧ r.packs.shreddedTotal = 0 ∧
   r.packs.counters = { admitted := 0, handedIn := 0, handedOut := 0, shredded := 0, cleared := 0, lost := 0 } ∧
   r.zone =
     { state := .air, since := 0, purgeUntil := none, settleUntil := none, floodUntil := none, feedUntil := none, topUp := false
       fpUntil := none, queue := [] } ∧
   ZoneOutputsOff r ∧
   (∀ x : Row, rowState r x =
      { condition := false, raised := false, acked := false, inhibit := none, firstOut := false, episode := 0, onset := none
        logEntry := none }) ∧
   r.causes.remoteFire = { sections := 0, originators := [] } ∧ r.causes.remoteThermal = { sections := 0, originators := [] } ∧
   r.causes.episode = 0 ∧ r.causes.log = [] ∧ r.causes.nextEntry = 1 ∧
   (∀ d : Fin 16, r.timers[d].state = .idle ∧ r.timers[d].elapsed = 0) ∧
   (∀ p : Fin 12, r.peers[p] =
      { state := .absent, lastSeq := none, lastArrival := none, staleAt := none, early := 0, regular := 0, reported := none }) ∧
   r.bus = { tripFire := none, tripThermal := none, statusPending := false, statusDueAt := none, watchUntil := none, blocked := false,
             handover := [], replies := [], attempt := none, backoffUntil := none, sequence := 0 })

/-- LOAD_END with an image that passes every check: OPERATING at that event with the image held, the first STATUS pending with its watch,
and the start window running (R202, R174, R175, R178). -/
def Obligations.LoadEndEntersOperating : Prop :=
  ∀ (memory : List Byte) (fields : ImageFields) (i : Image) (s : State),
    s.loader.mode = .starting → decodedImage fields = some i → validate s.loader.address.toNat memory fields = 0 →
    AnswersSettled (exec (.loadEnd memory fields) s)
      { s with
        loader := { s.loader with
          mode := .operating, image := some i, lineId := BitVec.ofNat 8 i.lineId, period := i.period, faultCode := 0 }
        zone := { s.zone with since := s.now / 20 }
        startUntil := some (s.now + 4 * Config.period i.period)
        bus := { s.bus with statusPending := true, watchUntil := some (s.now + 2 * Config.period i.period) } }

/-- LOAD_END with an image that fails: CONFIG_FAULT with the code of the first failing check, the line ID and period of R201 and R177, the
STATUS pending and no watch running; no image is taken up. The eleven checks stand in the order of R198, and each judges what R198 and R199
name. -/
def Obligations.LoadEndEntersConfigFault : Prop :=
  (∀ (memory : List Byte) (fields : ImageFields) (s : State),
    s.loader.mode = .starting → validate s.loader.address.toNat memory fields ≠ 0 →
    ∃ t, exec (.loadEnd memory fields) s = .next t ∧
      t.loader.mode = .configFault ∧ t.loader.faultCode = validate s.loader.address.toNat memory fields ∧
      t.loader.image = s.loader.image ∧ t.loader.address = s.loader.address ∧
      (∀ l, fields.lineId = some l → 1 ≤ l → l ≤ 255 → t.loader.faultCode ≠ 1 → t.loader.lineId = BitVec.ofNat 8 l) ∧
      (∀ l, fields.lineId = some l → l = 0 ∨ 255 < l → t.loader.lineId = 0) ∧ (fields.lineId = none → t.loader.lineId = 0) ∧
      (t.loader.faultCode = 1 → t.loader.lineId = 0) ∧
      (∀ p, fields.periodCode.bind periodOf = some p → t.loader.period = p) ∧
      (fields.periodCode.bind periodOf = none → t.loader.period = .p200) ∧
      t.bus = { s.bus with statusPending := true } ∧ { t with loader := s.loader, bus := s.bus } = s) ∧
  (∀ (own : Nat) (memory : List Byte) (fields : ImageFields),
    (readCompletes memory = false → validate own memory fields = 1) ∧
    (readCompletes memory = true → checkValueOk memory = false → validate own memory fields = 2) ∧
    (readCompletes memory = true → checkValueOk memory = true → formatOk memory = false → validate own memory fields = 3) ∧
    (readCompletes memory = true → checkValueOk memory = true → formatOk memory = true → decodedImage fields = none →
      validate own memory fields = 4) ∧
    (∀ i, readCompletes memory = true → checkValueOk memory = true → formatOk memory = true → decodedImage fields = some i →
      validate own memory fields =
        if orderingsOk i.body = false then 5 else if addressesOk own i.body = false then 6
        else if destinationsOk own i.body = false then 7 else if timersOnce i.body = false then 8
        else if timersNotSelf i.body = false then 9 else if literalsOk i.body = false then 10
        else if rankingOk i.body = false then 11 else 0)) ∧
  (∀ memory : List Byte,
    let length := (word16At memory 1).toNat
    (readCompletes memory = true ↔ 5 ≤ memory.length ∧ 5 ≤ length ∧ length ≤ 1024 ∧ length ≤ memory.length) ∧
    (checkValueOk memory = true ↔ crc16 ((memory.take length).take 3 ++ (memory.take length).drop 5) = word16At (memory.take length) 3) ∧
    (formatOk memory = true ↔ byteAt memory 0 = 1)) ∧
  (∀ (fields : ImageFields) (i : Image),
    decodedImage fields = some i ↔
      fields.lineId = some i.lineId ∧ 1 ≤ i.lineId ∧ i.lineId ≤ 255 ∧
        (∃ code, fields.periodCode = some code ∧
          (code = 1 ∧ i.period = .p50 ∨ code = 2 ∧ i.period = .p100 ∨ code = 3 ∧ i.period = .p200)) ∧
        fields.body = some i.body ∧ LineFieldsInRange i.body ∧ BayFieldsInRange i.body ∧ ZoneFieldsInRange i.body ∧
        PermitFieldsInRange i.body) ∧
  (∀ (own : Nat) (i : ImageBody),
    (orderingsOk i = true ↔
      (∀ k : Fin 4, i.classes[k].vendCell < i.classes[k].vrelCell) ∧
        (∀ z, i.zonePresent = 1 → i.zone = some z → z.o2inert < z.o2top ∧ z.o2top < z.o2warn ∧ z.o2warn ≤ 2100) ∧
        i.swarn < i.sfire) ∧
    (addressesOk own i = true ↔
      own ≠ 0 ∧ own ≠ 63 ∧ own ∉ i.watched ∧ own ∉ i.terminals ∧
        ∀ j k : Nat, j < k → ∀ a, i.watched[j]? = some a → i.watched[k]? ≠ some a) ∧
    (destinationsOk own i = true ↔
      ∀ b ∈ i.bays.take i.bayCount, (b.dest = own → i.zonePresent = 1) ∧ (b.dest ≠ own → b.dest ∈ i.watched)) ∧
    (timersOnce i = true ↔
      ∀ j k : Nat, j < k → ∀ t u, i.timers[j]? = some t → i.timers[k]? = some u → t.number ≠ u.number) ∧
    (timersNotSelf i = true ↔ ∀ t ∈ i.timers, ¬(t.input.kind = some .dwell ∧ t.input.index = some t.number)) ∧
    (literalsOk i = true ↔
      ∀ l : Literal, (∃ t ∈ i.timers, t.input = l) ∨ (∃ t ∈ i.siteTerms, l ∈ t.literals) →
        (peerKind l.kind = true → l.index.getD 0 < i.watched.length) ∧
        (l.kind = some .dwell → ∃ t ∈ i.timers, t.number = l.index.getD 0) ∧
        (l.kind = some .bayDischarging ∨ l.kind = some .baySafe → l.index.getD 0 < i.bayCount)) ∧
    (rankingOk i = true ↔ i.ranking.toList.Perm [.atmosphere, .thermal, .electrical, .line, .account]))

/-- RESTART taken from a terminal: what each block does at the warm reset (R193 with R23, R48, R69, R89, R110, R122, R148, R165, R180,
R194). The model's own choices are: no row of the cause table is formed again before the node leaves the reset (log 12), the kept condition
of EL4 is false (log 14), those of AC1 and AC2, removed and found at start, stay as they are (log 31), an ADMITTED bay stays ADMITTED (log
36), a field of its own marks a zone in FIRE (log 38), and the count of second boundaries is cleared (log 1). -/
def Obligations.RestartEntersWarmReset : Prop :=
  ∀ (h : Header) (s : State), requestTaken s h = true →
    ∃ t, exec (.restart h) s = .next t ∧
      t.now = s.now ∧ t.secondsDue = 0 ∧
      t.loader = { s.loader with mode := .warmReset, restart := some { endAt := s.now + 100, terminal := h.sender, seq := h.seq } } ∧
      (∀ b : BayIdx, t.meas[b] = { bayMeasureReset with thresholds := t.meas[b].thresholds } ∧
        (recordOfBay s b = none → t.meas[b].thresholds = none) ∧
        (∀ r c n, recordOfBay s b = some r → r.cls = some c → r.cells = some n →
          t.meas[b].thresholds = some
            { vend := n * (cfg s).classes[c].vendCell / 10, vrel := n * (cfg s).classes[c].vrelCell / 10
              iend := (cfg s).classes[c].iend })) ∧
      t.zmeas = zoneMeasureReset ∧
      (∀ b : BayIdx,
        (s.bays[b].state = .connecting ∨ s.bays[b].state = .discharging ∨ s.bays[b].state = .resting ∨ s.bays[b].state = .held →
          t.bays[b].state = .admitted) ∧
        (s.bays[b].state = .offering → t.bays[b].state = .safe) ∧
        (s.bays[b].state = .empty ∨ s.bays[b].state = .loaded ∨ s.bays[b].state = .admitted ∨ s.bays[b].state = .safe ∨
          s.bays[b].state = .releasing ∨ s.bays[b].state = .quarantine → t.bays[b].state = s.bays[b].state) ∧
        t.bays[b].ret = none ∧ t.bays[b].endArmed = false ∧ t.bays[b].presencePending = true ∧ t.bays[b].ppSeen = 0 ∧
        t.bays[b].rgUntil = none ∧ t.bays[b].restUntil = none ∧ t.bays[b].backoffUntil = none ∧
        t.bays[b].reason = s.bays[b].reason ∧ t.bays[b].mismatch = false ∧ t.bays[b].removed = s.bays[b].removed ∧
        t.bays[b].foundAtStart = s.bays[b].foundAtStart ∧
        (s.bays[b].state = .connecting ∨ s.bays[b].state = .discharging ∨ (∃ u, s.bays[b].window = .opening u) →
          t.bays[b].window = .opening (s.now + 400)) ∧
        (s.bays[b].state ≠ .connecting → s.bays[b].state ≠ .discharging → (∀ u, s.bays[b].window ≠ .opening u) →
          t.bays[b].window = .none) ∧
        t.handover[b] = { s.handover[b] with entry := .none }) ∧
      t.packs = s.packs ∧
      (s.zone.state = .air ∨ s.zone.state = .fire ∨ s.zone.state = .lockout → t.zone = s.zone) ∧
      (s.zone.state ≠ .air ∧ s.zone.state ≠ .fire ∧ s.zone.state ≠ .lockout →
        t.zone = { s.zone with
          state := .air, since := s.now / 20, purgeUntil := none, settleUntil := none, floodUntil := none, topUp := false
          fpUntil := none }) ∧
      (∀ n : Fin 4, t.fire.det[n] = { active := false, onset := none, persistUntil := none, persisted := false }) ∧
      t.fire.fd1 = false ∧ t.fire.reformUntil = none ∧ (t.fire.zoneKept = true ↔ s.zone.state = .fire) ∧
      t.fire.held = #v[conditionOf s .fd1, conditionOf s .fd2, conditionOf s .fd3, conditionOf s .fd4] ∧
      (∀ r : Row, rowState t r = { rowState s r with inhibit := none }) ∧
      t.causes.log = s.causes.log ∧ t.causes.episode = s.causes.episode ∧ t.causes.remoteFire = s.causes.remoteFire ∧
      t.causes.remoteThermal = s.causes.remoteThermal ∧
      (∀ d : Fin 16, t.timers[d].state = .idle ∧ t.timers[d].elapsed = 0) ∧
      (∀ p : Fin 12, t.peers[p] = peerReset) ∧ t.startUntil = none ∧
      t.bus = { tripFire := none, tripThermal := none, statusPending := false, statusDueAt := none, watchUntil := none,
                blocked := false, handover := [], replies := [], attempt := none, backoffUntil := none, sequence := s.bus.sequence }

/-- WARM_RESET_END once the 50 ms have run: OPERATING, the DONE of the RESTART queued, the first STATUS pending with its watch, the start
window running, and the re-formation timer on a node with a zone (R193, R138, R174, R175, R122). Measurement, peers, counters and totals
stay as the reset left them. Every deadline and timer that fell in the reset expires at this event with the effect of its rule: transits,
releases and reservations of records, the feed deadline, the flood timer (R69, R110, R193). These are the model's choices: that they expire
in that order, records in table order (log 11); that a RELEASING bay's deadline does so although its presence check is pending (log 17);
that the leaving is one event for the first-out mark (log 35); and that the command does nothing before the 50 ms have run (log 2). -/
def Obligations.WarmResetEndReturnsToService : Prop :=
  (∀ (r : Restarting) (s : State), s.loader.mode = .warmReset → s.loader.restart = some r →
    (s.now < r.endAt → exec .warmResetEnd s = .next s) ∧
    (r.endAt ≤ s.now →
      let back : State :=
        { s with
          loader := { s.loader with mode := .operating, restart := none }
          startUntil := some (s.now + 4 * Config.period s.loader.period)
          fire := { s.fire with
            reformUntil := if hasZone s = true then some (s.now + ((cfg s).tconf + 1) * 2000) else none }
          bus := { s.bus with
            statusPending := true, watchUntil := some (s.now + 2 * Config.period s.loader.period)
            replies := s.bus.replies ++
              [{ dest := r.terminal, kind := 18, seq := r.seq, result := .done, payload := .none }] } }
      AnswersArrival (exec .warmResetEnd s) s (expireAll back) ∧
      ∃ t, exec .warmResetEnd s = .next t ∧ t.now = s.now ∧ t.loader = back.loader ∧ t.bus.replies = back.bus.replies ∧
        t.bus.statusPending = true ∧ t.bus.watchUntil = back.bus.watchUntil ∧ t.bus.sequence = s.bus.sequence ∧
        t.startUntil = back.startUntil ∧ t.fire = back.fire ∧ t.meas = s.meas ∧ t.zmeas = s.zmeas ∧ t.peers = s.peers ∧
        t.packs.counters = s.packs.counters ∧ t.packs.dischargedTotal = s.packs.dischargedTotal ∧
        t.packs.shreddedTotal = s.packs.shreddedTotal)) ∧
  (∀ s : State,
    let judged := (s.packs.records.filterMap PackRecord.id).foldl expireOverdue s
    let fed :=
      if ∃ u, judged.zone.feedUntil = some u ∧ u ≤ judged.now then
        let stopped : State := { judged with zone := { judged.zone with feedUntil := none } }
        if ∃ id, judged.zone.queue.head? = some id ∧ slotStage judged id = some .feeding then pulseRow stopped .ac7 else stopped
      else judged
    expireAll s =
      if ∃ u, fed.zone.floodUntil = some u ∧ u ≤ fed.now then { fed with zone := { fed.zone with floodUntil := none } } else fed) ∧
  (∀ (id : PackId) (s : State),
    ((∀ r d, recordOfId s id = some r → r.deadline = some d → nodeCount s < d) → expireOverdue s id = s) ∧
    (∀ r d, recordOfId s id = some r → r.deadline = some d → d ≤ nodeCount s →
      let missing := updRecordOfId s id fun x => { x with stage := .missing, stageSince := nodeTime s, deadline := none }
      (r.stage = .inTransit → r.origin ≠ some s.loader.address → expireOverdue s id = missing) ∧
      (r.stage = .inTransit → r.origin = some s.loader.address →
        expireOverdue s id = { missing with zone := { s.zone with queue := s.zone.queue.erase id } }) ∧
      (∀ b : BayIdx, r.stage = .atBay → r.bay = some b → s.bays[b].state = .releasing →
        expireOverdue s id =
          updBay (releaseReservation s b) b fun x =>
            { x with state := .safe, backoffUntil := some (s.now + (cfg s).offerBackoff * 2000) }) ∧
      (r.stage = .reserved →
        expireOverdue s id =
          pulseRow
            { s with
              packs := { s.packs with records := s.packs.records.eraseP (hasId id) }
              zone := { s.zone with queue := s.zone.queue.erase id } } .ac4)))

/-! ### Measurement (01) -/

/-- One reading taken by a channel: a valid one is taken with its clamp flag, the first three invalid ones are held (or add to the run of
a channel in NO_SAMPLE), the fourth makes it INVALID (R1, R2, R3). One decision taken by a comparator: it enters the history, and the
filtered state follows the last k decisions where they agree and stays where they do not (R8). -/
def Obligations.ReadingsAndDecisions : Prop :=
  (∀ (fs : Int → Bool) (c : Channel) (x : Int),
    takeReading fs c { value := x, valid := true } = { status := .valid, value := some x, run := 0, clamp := fs x }) ∧
  (∀ (fs : Int → Bool) (c : Channel) (x : Int),
    (c.status = .valid ∨ c.status = .held → c.run ≤ 2 →
      takeReading fs c { value := x, valid := false } = { c with status := .held, run := c.run + 1 }) ∧
    (c.status = .held → c.run = 3 →
      takeReading fs c { value := x, valid := false } = { status := .invalid, value := none, run := 4, clamp := false }) ∧
    (c.status = .noSample → c.run ≤ 2 →
      takeReading fs c { value := x, valid := false } = { status := .noSample, value := none, run := c.run + 1, clamp := c.clamp }) ∧
    (c.status = .noSample → c.run = 3 →
      takeReading fs c { value := x, valid := false } = { status := .invalid, value := none, run := 4, clamp := false }) ∧
    (c.status = .invalid →
      takeReading fs c { value := x, valid := false } = { status := .invalid, value := none, run := 4, clamp := false })) ∧
  (∀ x : Int, (fullScaleV x = true ↔ x = 65535) ∧ (fullScaleI x = true ↔ x = -32768 ∨ x = 32767)) ∧
  (∀ (k : Nat) (d : Bool) (c : Comparator), 1 ≤ k → k ≤ 8 →
    let t := pushDecision k d c
    t.history.getLsbD 0 = d ∧ (∀ n < 7, t.history.getLsbD (n + 1) = c.history.getLsbD n) ∧
    ((∀ n < k, t.history.getLsbD n = true) → t.filtered = true) ∧
    ((∀ n < k, t.history.getLsbD n = false) → t.filtered = false) ∧
    ((∃ n < k, t.history.getLsbD n = true) → (∃ n < k, t.history.getLsbD n = false) → t.filtered = c.filtered))

/-- PAIR_ARRIVAL on a configured bay: both channels take their readings, every comparator its decision, and the pack's record the degraded
mark and the integrated interval; nothing of the measurement of other bays, of the counters or of what ReactionFrame lists is touched (R1
to R4, R7 to R10, R13). In DISCHARGING a false CI_end arms the end condition (R33). CV_rel rising through in SAFE or OFFERING is a late
rebound (R44); where the same arrival holds the bay, the rebound or the hold comes first (log 7). That a rebound which comes first reads
CONNECT before the arrival's rows are raised is the model's choice (log 41). A pair of an unconfigured bay changes nothing (R24). -/
def Obligations.PairArrivalMeasures : Prop :=
  ∀ (b : BayIdx) (v : BitVec 16) (vValid : Bool) (i : BitVec 16) (iValid : Bool) (s : State), inService s = true →
    let o := exec (.pairArrival b v vValid i iValid) s
    (bayConfigured s b = false → o = .next s) ∧
    (bayConfigured s b = true → ∃ m : BayMeasure,
      let measured : State :=
        { s with
          meas := s.meas.set b.val m b.isLt
          packs := { s.packs with records := modifyFirst (isAtBay b) (pairTakenBy s b m) s.packs.records } }
      let armed : State :=
        if s.bays[b].state = .discharging ∧ m.ciEnd.filtered = false then
          { measured with bays := s.bays.set b { s.bays[b] with endArmed := true } }
        else measured
      let late :=
        m.cvRel.filtered = true ∧ s.meas[b].cvRel.filtered = false ∧ (s.bays[b].state = .safe ∨ s.bays[b].state = .offering)
      let holds := ∃ t, handConditions armed = some t ∧ t.bays[b].state = .held
      let chosen : State := { armed with freeIndex := s.freeIndex + 1 }
      (∃ t, o = .next t ∧ ReactionFrame measured t) ∧
      (¬late → AnswersSettled o armed) ∧
      (late → ¬holds → AnswersSettled o (lateRebound armed b)) ∧
      (late → holds → AnswersSettled o (lateRebound chosen b) ∨ AnswersSettled o chosen) ∧
      m.v = takeReading fullScaleV s.meas[b].v { value := v.toNat, valid := vValid } ∧
      m.i = takeReading fullScaleI s.meas[b].i { value := i.toInt, valid := iValid } ∧
      m.ciMax = decideOn (cfg s).ke m.i.value (fun x => decide (x ≥ ((cfg s).imax : Int))) s.meas[b].ciMax ∧
      m.ciRev = decideOn (cfg s).ke m.i.value (fun x => decide (x ≤ -((cfg s).irev : Int))) s.meas[b].ciRev ∧
      (∀ h, s.meas[b].thresholds = some h →
        m.cvEnd = decideOn (cfg s).ke m.v.value (fun x => decide (x ≤ (h.vend : Int))) s.meas[b].cvEnd ∧
        m.cvRel = decideOn (cfg s).ke m.v.value (fun x => decide (x ≥ (h.vrel : Int))) s.meas[b].cvRel ∧
        m.ciEnd = decideOn (cfg s).ke m.i.value (fun x => decide (x ≤ (h.iend : Int))) s.meas[b].ciEnd) ∧
      (s.meas[b].thresholds = none →
        m.cvEnd = s.meas[b].cvEnd ∧ m.cvRel = s.meas[b].cvRel ∧ m.ciEnd = s.meas[b].ciEnd) ∧
      { m with v := s.meas[b].v, i := s.meas[b].i, ciMax := s.meas[b].ciMax, ciRev := s.meas[b].ciRev, cvEnd := s.meas[b].cvEnd
               cvRel := s.meas[b].cvRel, ciEnd := s.meas[b].ciEnd } = s.meas[b])

/-- One interval integrated (R13 to R16): each accumulator by its own addition within its limits, Qdis and Edis as their quotients
truncated toward zero, Edis within ±1,000,000, the Residual within 0 and Edecl, the degraded mark at any saturation, and no other field. -/
def Obligations.IntegrationFollowsRules : Prop :=
  ∀ (period : Nat) (v i : Int) (r : PackRecord) (a : Accumulators), r.acc = some a →
    let q := a.qa + i * period
    let e := a.ea + v * i * period
    ∃ qa ea, (integrateRecord period v i r).acc = some { qa := qa, ea := ea } ∧
      (-140737488355328 ≤ q ∧ q ≤ 140737488355327 → qa = q) ∧ (q < -140737488355328 → qa = -140737488355328) ∧
      (140737488355327 < q → qa = 140737488355327) ∧
      (-9223372036854775808 ≤ e ∧ e ≤ 9223372036854775807 → ea = e) ∧ (e < -9223372036854775808 → ea = -9223372036854775808) ∧
      (9223372036854775807 < e → ea = 9223372036854775807) ∧
      (integrateRecord period v i r).qdis = qa.tdiv 3600000 ∧
      (let x := ea.tdiv 3600000000
       let edis := (integrateRecord period v i r).edis
       (-1000000 ≤ x ∧ x ≤ 1000000 → edis = x) ∧ (x < -1000000 → edis = -1000000) ∧ (1000000 < x → edis = 1000000) ∧
       (r.edecl = none → (integrateRecord period v i r).residual = none) ∧
       (∀ d : Nat, r.edecl = some d →
         ((d : Int) - edis < 0 → (integrateRecord period v i r).residual = some 0) ∧
         ((d : Int) < d - edis → (integrateRecord period v i r).residual = some d) ∧
         (∀ n : Nat, (n : Int) = d - edis → n ≤ d → (integrateRecord period v i r).residual = some n)) ∧
       ((integrateRecord period v i r).degraded = true ↔ r.degraded = true ∨ qa ≠ q ∨ ea ≠ e ∨ edis ≠ x)) ∧
      { integrateRecord period v i r with
        acc := r.acc, qdis := r.qdis, edis := r.edis, residual := r.residual, degraded := r.degraded } = r

/-- TB_ARRIVAL on a configured bay: the channel, CT_over, the ring of eight and CT_rise on a full ring, and nothing else of the
measurement; one of an unconfigured bay changes nothing (R1, R2, R5, R18, R24). -/
def Obligations.TbArrivalMeasures : Prop :=
  ∀ (b : BayIdx) (tb : Reading) (s : State), inService s = true →
    (bayConfigured s b = false → exec (.tbArrival b tb) s = .next s) ∧
    (bayConfigured s b = true →
      ∃ m, AnswersSettled (exec (.tbArrival b tb) s) { s with meas := s.meas.set b.val m b.isLt } ∧
        m.tb = takeReading (fun _ => false) s.meas[b].tb tb ∧
        m.ctOver = decideOn (cfg s).kt m.tb.value (fun x => decide (x ≥ (cfg s).tover)) s.meas[b].ctOver ∧
        (∀ x, m.tb.value = some x →
          (s.meas[b].ring.length < 8 → m.ring = s.meas[b].ring ++ [x]) ∧
          (s.meas[b].ring.length = 8 → m.ring = s.meas[b].ring.tail ++ [x]) ∧
          (m.ring.length ≠ 8 → m.ctRise = s.meas[b].ctRise) ∧
          (∀ oldest rest, m.ring.length = 8 → m.ring = oldest :: rest →
            m.ctRise = pushDecision (cfg s).kt (decide (x - oldest ≥ 7 * ((cfg s).rlim : Int))) s.meas[b].ctRise)) ∧
        (m.tb.value = none → m.ctRise = s.meas[b].ctRise ∧ (m.tb.status = .invalid → m.ring = []) ∧
          (m.tb.status ≠ .invalid → m.ring = s.meas[b].ring)) ∧
        { m with tb := s.meas[b].tb, ctOver := s.meas[b].ctOver, ctRise := s.meas[b].ctRise, ring := s.meas[b].ring } = s.meas[b])

/-- ZONE_ARRIVAL on a node with a zone: the four channels, O2eff as the greater of the two (an INVALID sensor counts as 25.00 % vol, none
while one is in NO_SAMPLE), the six comparators, and the top-up by their crossings (R5, R7, R19, R20, R96). In INERT with CO_inert lost and
CO_warn true either the purge or the alarm comes first (log 7), so that case is left out of the top-up clause. On a node without a zone it
changes nothing (R24). -/
def Obligations.ZoneArrivalMeasures : Prop :=
  ∀ (o2a o2b h1 h2 : Reading) (s : State), inService s = true →
    (zoneCfg s = none → exec (.zoneArrival o2a o2b h1 h2) s = .next s) ∧
    ∀ z, zoneCfg s = some z → ∃ m u, exec (.zoneArrival o2a o2b h1 h2) s = .next (settle u) ∧ ReactionFrame u (settle u) ∧
      m.o2a = takeReading (fun _ => false) s.zmeas.o2a o2a ∧ m.o2b = takeReading (fun _ => false) s.zmeas.o2b o2b ∧
      m.h1 = takeReading (fun _ => false) s.zmeas.h1 h1 ∧ m.h2 = takeReading (fun _ => false) s.zmeas.h2 h2 ∧
      (∀ x y, oxygenReads m.o2a = some x → oxygenReads m.o2b = some y →
        m.coInert = pushDecision (cfg s).kg (decide (max x y ≤ (z.o2inert : Int))) s.zmeas.coInert ∧
        m.coTop = pushDecision (cfg s).kg (decide (max x y ≥ (z.o2top : Int))) s.zmeas.coTop ∧
        m.coWarn = pushDecision (cfg s).kg (decide (max x y ≥ (z.o2warn : Int))) s.zmeas.coWarn) ∧
      (oxygenReads m.o2a = none ∨ oxygenReads m.o2b = none →
        m.coInert = s.zmeas.coInert ∧ m.coTop = s.zmeas.coTop ∧ m.coWarn = s.zmeas.coWarn) ∧
      (m.o2a.status = .noSample → oxygenReads m.o2a = none) ∧ (m.o2b.status = .noSample → oxygenReads m.o2b = none) ∧
      (∀ x y, m.o2a.value = some x → m.o2b.value = some y →
        m.coDis = pushDecision (cfg s).kg (decide (|x - y| > (z.tol : Int))) s.zmeas.coDis) ∧
      (m.o2a.value = none ∨ m.o2b.value = none → m.coDis = s.zmeas.coDis) ∧
      m.chFire1 = decideOn (cfg s).kh m.h1.value (fun x => decide (x ≥ (cfg s).hfire)) s.zmeas.chFire1 ∧
      m.chFire2 = decideOn (cfg s).kh m.h2.value (fun x => decide (x ≥ (cfg s).hfire)) s.zmeas.chFire2 ∧
      m.d = s.zmeas.d ∧ m.dc = s.zmeas.dc ∧ m.ar = s.zmeas.ar ∧ m.fc = s.zmeas.fc ∧ m.g = s.zmeas.g ∧ m.spark = s.zmeas.spark ∧
      u.zmeas = m ∧ { u with zmeas := s.zmeas, zone := s.zone, freeIndex := s.freeIndex } = s ∧
      (¬(s.zone.state = .inert ∧ m.coInert.filtered = false ∧ m.coWarn.filtered = true) →
        u.zone = { s.zone with
          topUp :=
            if s.zone.state = .inert ∨ s.zone.state = .ready ∨ s.zone.state = .running then
              if m.coInert.filtered = true ∧ s.zmeas.coInert.filtered = false then false
              else if m.coTop.filtered = true ∧ s.zmeas.coTop.filtered = false then true else s.zone.topUp
            else s.zone.topUp })

/-- DISCRETE_ARRIVAL: every configured input named takes one decision with k_d into its own history; every other input, the analog side and
what no input owns stay (R6, R8). The levels of inputs that are not configured change nothing (R24, R90). SP_ARRIVAL counts its pulses into
the current bin, which stops at 255; SECOND_BOUNDARY drops the oldest bin and opens a new one (R21), both on a node with a zone alone. A
boundary acts once for each that node time has reached (log 1). -/
def Obligations.DiscreteInputsMeasure : Prop :=
  (∀ (levels : List (DiscreteInput × Bool)) (s : State),
    (∀ x ∈ levels, inputConfigured s x.1 = false) → exec (.discreteArrival levels) s = .next s) ∧
  (∀ s : State,
    (∀ b : BayIdx, inputConfigured s (.pp b) = bayConfigured s b ∧ inputConfigured s (.kf b) = bayConfigured s b) ∧
    (∀ n : Fin 4, inputConfigured s (.d n) = hasZone s) ∧ inputConfigured s .dc = hasZone s ∧ inputConfigured s .ar = hasZone s ∧
    inputConfigured s .fc = hasZone s ∧ ∀ n : Fin 8, inputConfigured s (.g n) = true) ∧
  (∀ (pulses : BitVec 8) (s : State), hasZone s = false → exec (.spArrival pulses) s = .next s) ∧
  (∀ s : State, s.secondsDue = 0 → exec .secondBoundary s = .next s) ∧
  (∀ s : State, inService s = true → hasZone s = false → 0 < s.secondsDue →
    exec .secondBoundary s = .next { s with secondsDue := s.secondsDue - 1 }) ∧
  (∀ (levels : List (DiscreteInput × Bool)) (s : State), inService s = true → (levels.map Prod.fst).Nodup →
    ∃ t, exec (.discreteArrival levels) s = .next t ∧
      (∀ b : BayIdx, t.meas[b].pp = decidedBy s levels (.pp b) s.meas[b].pp ∧ t.meas[b].kf = decidedBy s levels (.kf b) s.meas[b].kf ∧
        { t.meas[b] with pp := s.meas[b].pp, kf := s.meas[b].kf, thresholds := s.meas[b].thresholds } = s.meas[b]) ∧
      (∀ n : Fin 4, t.zmeas.d[n] = decidedBy s levels (.d n) s.zmeas.d[n]) ∧
      (∀ n : Fin 8, t.zmeas.g[n] = decidedBy s levels (.g n) s.zmeas.g[n]) ∧
      t.zmeas.dc = decidedBy s levels .dc s.zmeas.dc ∧ t.zmeas.ar = decidedBy s levels .ar s.zmeas.ar ∧
      t.zmeas.fc = decidedBy s levels .fc s.zmeas.fc ∧
      { t.zmeas with d := s.zmeas.d, g := s.zmeas.g, dc := s.zmeas.dc, ar := s.zmeas.ar, fc := s.zmeas.fc } = s.zmeas ∧
      t.now = s.now ∧ t.loader = s.loader ∧ t.peers = s.peers ∧ t.startUntil = s.startUntil ∧ t.bus.replies = s.bus.replies ∧
      t.bus.sequence = s.bus.sequence) ∧
  (∀ (pulses : BitVec 8) (older : List Nat) (current : Nat) (s : State), inService s = true → hasZone s = true →
    s.zmeas.spark = older ++ [current] →
    AnswersSettled (exec (.spArrival pulses) s)
      { s with zmeas := { s.zmeas with spark := older ++ [min 255 (current + pulses.toNat)] } }) ∧
  (∀ (oldest : Nat) (newer : List Nat) (s : State), inService s = true → hasZone s = true → 0 < s.secondsDue →
    s.zmeas.spark = oldest :: newer →
    AnswersSettled (exec .secondBoundary s)
      { s with secondsDue := s.secondsDue - 1, zmeas := { s.zmeas with spark := newer ++ [0] } })

/-- What PP and KF crossings of a bay do, one level at a time: a pack sensed and gone again, a presence that rises in another state, an
unexpected removal, a pack leaving to another station and to the own zone, a quarantined pack taken out, and the contactor's feedback (R26,
R28, R31, R32, R43, R46, R55, R56, R62). -/
def Obligations.BayInputsCross : Prop :=
  ∀ (b : BayIdx) (s : State),
    (rises s (.pp b) → s.bays[b].presencePending = false → s.bays[b].state = .empty →
      AnswersArrival (exec (.discreteArrival [(.pp b, true)]) s) s
        (updBay (pushInput s (.pp b, true)) b fun x => { x with state := .loaded, removed := false })) ∧
    (rises s (.pp b) → s.bays[b].presencePending = false → s.bays[b].state ≠ .empty →
      AnswersArrival (exec (.discreteArrival [(.pp b, true)]) s) s (pushInput s (.pp b, true))) ∧
    (falls s (.pp b) → s.bays[b].presencePending = false →
      (s.bays[b].state = .loaded →
        AnswersArrival (exec (.discreteArrival [(.pp b, false)]) s) s
          (updBay (pushInput s (.pp b, false)) b fun x => { x with state := .empty, foundAtStart := false })) ∧
      (s.bays[b].state = .empty ∨ s.bays[b].state = .quarantine →
        AnswersArrival (exec (.discreteArrival [(.pp b, false)]) s) s (pushInput s (.pp b, false))) ∧
      (holdsPack s b = true → s.bays[b].state ≠ .releasing →
        ∃ u, AnswersArrival (exec (.discreteArrival [(.pp b, false)]) s) s u ∧
          u.bays[b].state = .empty ∧ u.bays[b].removed = true ∧ u.meas[b].thresholds = none ∧
          u.packs.records =
            modifyFirst (isAtBay b)
              (fun r => { r with stage := .missing, stageSince := nodeTime s, acc := none, deadline := none }) s.packs.records ∧
          u.packs.counters = s.packs.counters ∧
          (∀ r, recordOfBay s b = some r →
            u.packs.dischargedTotal = min 281474976710655 (s.packs.dischargedTotal + r.edis.toNat)) ∧
          (s.bays[b].state = .offering → u.handover[b].entry = .none) ∧
          (s.bays[b].state = .connecting ∨ s.bays[b].state = .discharging → u.bays[b].window = .opening (s.now + 400))) ∧
      (∀ r id, s.bays[b].state = .releasing → recordOfBay s b = some r → r.id = some id →
        ∃ u, AnswersArrival (exec (.discreteArrival [(.pp b, false)]) s) s u ∧
          u.bays[b].state = .empty ∧ u.bays[b].removed = s.bays[b].removed ∧ u.meas[b].thresholds = none ∧
          u.packs.records =
            modifyFirst (isAtBay b)
              (fun x =>
                { x with
                  stage := .inTransit, stageSince := nodeTime s, acc := none
                  origin := if r.dest = some s.loader.address then some s.loader.address else x.origin }) s.packs.records ∧
          u.packs.counters = s.packs.counters ∧
          u.packs.dischargedTotal = min 281474976710655 (s.packs.dischargedTotal + r.edis.toNat) ∧
          (r.dest = some s.loader.address → u.zone.queue = s.zone.queue ++ [id] ∧ u.handover[b].claim = false) ∧
          (r.dest ≠ some s.loader.address → u.zone.queue = s.zone.queue ∧ u.handover = s.handover))) ∧
    (rises s (.kf b) →
      (coilOn s b = true →
        AnswersArrival (exec (.discreteArrival [(.kf b, true)]) s) s
          (updBay (pushInput s (.kf b, true)) b fun x => { x with mismatch := false })) ∧
      (∀ u, coilOn s b = false → s.bays[b].window = .opening u →
        AnswersArrival (exec (.discreteArrival [(.kf b, true)]) s) s (pushInput s (.kf b, true))) ∧
      (coilOn s b = false → (∀ u, s.bays[b].window ≠ .opening u) →
        AnswersArrival (exec (.discreteArrival [(.kf b, true)]) s) s
          (updBay (pushInput s (.kf b, true)) b fun x => { x with mismatch := true }))) ∧
    (falls s (.kf b) →
      (∀ u, coilOn s b = true → s.bays[b].window = .closing u →
        AnswersArrival (exec (.discreteArrival [(.kf b, false)]) s) s (pushInput s (.kf b, false))) ∧
      (coilOn s b = true → (∀ u, s.bays[b].window ≠ .closing u) →
        AnswersArrival (exec (.discreteArrival [(.kf b, false)]) s) s
          (updBay (pushInput s (.kf b, false)) b fun x => { x with mismatch := true })) ∧
      (∀ u, coilOn s b = false → s.bays[b].window = .opening u →
        AnswersArrival (exec (.discreteArrival [(.kf b, false)]) s) s
          (updBay (pushInput s (.kf b, false)) b fun x => { x with mismatch := false, window := .none })) ∧
      (coilOn s b = false → (∀ u, s.bays[b].window ≠ .opening u) →
        AnswersArrival (exec (.discreteArrival [(.kf b, false)]) s) s
          (updBay (pushInput s (.kf b, false)) b fun x => { x with mismatch := false })))

/-- What the crossings of the zone's inputs do, one level at a time: an arrival matched by order alone, an arrival that nobody announced, a
feed completed, an FC that meets no feed, a detector risen and fallen; DC and the general inputs set off reactions alone (R6, R59, R60,
R83, R84, R108, R112 to R115). -/
def Obligations.ZoneInputsCross : Prop :=
  ∀ s : State,
    (rises s .ar →
      (∀ ahead id behind r, s.zone.queue = ahead ++ id :: behind →
        (∀ x ∈ ahead, slotStage s x ≠ some .reserved ∧ slotStage s x ≠ some .inTransit) → recordOfId s id = some r →
        (r.stage = .reserved →
          AnswersArrival (exec (.discreteArrival [(.ar, true)]) s) s
            (queueHandover
              (updCounters
                (updRecordOfId (pushInput s (.ar, true)) id fun x =>
                  { x with stage := .waiting, stageSince := nodeTime s, deadline := none })
                fun c => { c with handedIn := c.handedIn + 1 })
              (r.origin.getD 0) (.landed id))) ∧
        (r.stage = .inTransit →
          AnswersArrival (exec (.discreteArrival [(.ar, true)]) s) s
            (updRecordOfId (pushInput s (.ar, true)) id fun x =>
              { x with stage := .waiting, stageSince := nodeTime s, deadline := none }))) ∧
      ((∀ x ∈ s.zone.queue, slotStage s x ≠ some .reserved ∧ slotStage s x ≠ some .inTransit) →
        (s.packs.records.length < 24 →
          AnswersArrival (exec (.discreteArrival [(.ar, true)]) s) s
            (pulseRow
              (updCounters (addRecord (pushInput s (.ar, true)) (unidentifiedRecord s)) fun c =>
                { c with handedIn := c.handedIn + 1 }) .ac3)) ∧
        (24 ≤ s.packs.records.length →
          AnswersArrival (exec (.discreteArrival [(.ar, true)]) s) s (pulseRow (pushInput s (.ar, true)) .ac3)))) ∧
    (rises s .fc → s.zone.queue = [] → AnswersArrival (exec (.discreteArrival [(.fc, true)]) s) s (pushInput s (.fc, true))) ∧
    (∀ x : DiscreteInput, x = .dc ∨ (∃ n, x = .g n) → rises s x →
      AnswersArrival (exec (.discreteArrival [(x, true)]) s) s (pushInput s (x, true))) ∧
    (∀ x : DiscreteInput, x = .dc ∨ x = .ar ∨ x = .fc ∨ (∃ n, x = .g n) → falls s x →
      AnswersArrival (exec (.discreteArrival [(x, false)]) s) s (pushInput s (x, false))) ∧
    (rises s .fc → ∀ id rest r, s.zone.queue = id :: rest → recordOfId s id = some r →
      (r.stage = .feeding →
        ∃ u, AnswersArrival (exec (.discreteArrival [(.fc, true)]) s) s u ∧
          u.packs.records = s.packs.records.eraseP (hasId id) ∧
          u.packs.counters = { s.packs.counters with shredded := s.packs.counters.shredded + 1 } ∧
          u.packs.shreddedTotal = min 281474976710655 (s.packs.shreddedTotal + r.residual.getD 0) ∧
          u.packs.dischargedTotal = s.packs.dischargedTotal ∧ u.zone = { s.zone with queue := rest, feedUntil := none }) ∧
      (r.stage ≠ .feeding → AnswersArrival (exec (.discreteArrival [(.fc, true)]) s) s (pushInput s (.fc, true)))) ∧
    (∀ n : Fin 4, rises s (.d n) →
      ∃ u, AnswersArrival (exec (.discreteArrival [(.d n, true)]) s) s u ∧
        u.fire.det[n] =
          { active := true, onset := some (nodeTime s), persistUntil := some (nodeCount s + (cfg s).tconf * 100)
            persisted := false } ∧
        (∀ m : Fin 4, m ≠ n → u.fire.det[m] = s.fire.det[m]) ∧
        (u.fire.fd1 = true ↔
          s.fire.fd1 = true ∨ ∃ m : Fin 4, m ≠ n ∧ s.fire.det[m].active = true ∧
            ∃ t, s.fire.det[m].onset = some t ∧ (nodeTime s - t).toNat ≤ (cfg s).window * 100)) ∧
    (∀ n : Fin 4, falls s (.d n) →
      ∃ u, AnswersArrival (exec (.discreteArrival [(.d n, false)]) s) s u ∧
        u.fire.det[n] = { active := false, onset := none, persistUntil := none, persisted := false } ∧
        (∀ m : Fin 4, m ≠ n → u.fire.det[m] = s.fire.det[m]) ∧
        (u.fire.fd1 = true ↔
          s.fire.fd1 = true ∧ ∃ m k : Fin 4, m ≠ n ∧ k ≠ n ∧ m ≠ k ∧ s.fire.det[m].active = true ∧ s.fire.det[k].active = true))

/-! ### What an event sets off -/

/-- What an event sets off after the command's own effect. First the zone, then the bays, give way to the rows as they stand (R39, R99,
R100). Then one reaction is taken after another, until none is left or 64 have been taken: the conditions that changed, handed lowest
position first with FIRE at a raising of FD1 to FD4 and the quarantine at one of TH2; the dwell timers, judged from those before it; the
zone's own reaction; that of the lowest bay that has one; the start of a feed (R41, R102, R120, R127, R158). The model's own choices are
the order of zone, bays and feed and the bound (log 6), that the rows are handed lowest position first (log 18), that the quarantine of TH2
comes before the holds (log 37), and that a discrete arrival is one event for the first-out mark (log 35). Every command in service that
changes the node ends so, but for those that set off nothing and the refusals and reports of requests, which are a REPLY alone. -/
def Obligations.EventsRunToTheirEnd : Prop :=
  (∀ s : State, obeyRows s = obeyBay (obeyBay (obeyBay (obeyBay (obeyZone s) 0) 1) 2) 3) ∧
  (∀ s : State, ∃ (n : Nat) (chain : Nat → State),
    n ≤ 64 ∧ chain 0 = obeyRows s ∧ (∀ k < n, react s.timers (chain k) = some (chain (k + 1))) ∧ settle s = chain n ∧
      (n = 64 ∨ react s.timers (settle s) = none)) ∧
  (∀ (before : Vector Timer 16) (s : State),
    (∀ t, handConditions s = some t → react before s = some t) ∧
    (handConditions s = none →
      (timersAfter s before ≠ s.timers → react before s = some { s with timers := timersAfter s before }) ∧
      (timersAfter s before = s.timers →
        (∀ t, zoneReact s = some t → react before s = some t) ∧
        (zoneReact s = none →
          (∀ b t, bayReact s b = some t → (∀ c < b, bayReact s c = none) → react before s = some t) ∧
          ((∀ b, bayReact s b = none) → react before s = feedReact s))))) ∧
  (∀ s t : State, handConditions s = some t → ∃ changed newly : List Row,
    (changed.map rowPosition).Pairwise (· < ·) ∧ (∀ r, r ∈ changed ↔ conditionOf s r ≠ (rowState s r).condition) ∧
    (newly.map rowPosition).Pairwise (· < ·) ∧ (∀ r, r ∈ newly ↔ r ∈ changed ∧ conditionOf s r = true ∧ raised s r = false) ∧
    t = obeyRows (newly.foldl onRaise (changed.foldl (fun u r => handCondition u r (conditionOf s r)) s))) ∧
  (∀ (r : Row) (s : State),
    (r = .fd1 ∨ r = .fd2 ∨ r = .fd3 ∨ r = .fd4 → onRaise s r = enterFire s) ∧
    (∀ b, r = .th2 b → onRaise s r = thermalQuarantine s b) ∧
    (r ≠ .fd1 → r ≠ .fd2 → r ≠ .fd3 → r ≠ .fd4 → (∀ b, r ≠ .th2 b) → onRaise s r = s)) ∧
  (∀ (c : Instr) (s t : State), inService s = true → exec c s = .next t →
    t = s ∨ setsOffNothing c = true ∨ (∃ u, t = settle u) ∨ (∃ u r, t = queueReply (settle u) r) ∨ (∃ r, t = queueReply s r) ∨
      ∃ levels u, c = .discreteArrival levels ∧ t = markFirstOut s u ∧ (u = levels.foldl pushInput s ∨ ∃ v, u = settle v))

/-! ### Bays and handover (02, 04) -/

/-- The contactor windows, the offer backoff and the RG pulse of a bay end when their intervals have run: EL4's condition is true where a
contact has not followed (R25, R30 to R32, R44, R45). That their commands change nothing before the interval has run is the model's choice
(log 2). -/
def Obligations.BayIntervalsEnd : Prop :=
  ∀ (b : BayIdx) (u : Nat) (s : State), inService s = true →
    (s.bays[b].window = .closing u → u ≤ s.now →
      AnswersSettled (exec (.closingWindowExpiry b) s)
        (updBay s b fun x =>
          { x with
            window := .none
            mismatch := if s.bays[b].state = .connecting ∧ s.meas[b].kf.filtered = false then true else x.mismatch })) ∧
    (s.bays[b].window = .opening u → u ≤ s.now →
      AnswersSettled (exec (.openingWindowExpiry b) s)
        (updBay s b fun x =>
          { x with window := .none, mismatch := if s.meas[b].kf.filtered = true then true else x.mismatch })) ∧
    (s.bays[b].window = .closing u → s.now < u → exec (.closingWindowExpiry b) s = .next s) ∧
    (s.bays[b].window = .opening u → s.now < u → exec (.openingWindowExpiry b) s = .next s) ∧
    (s.bays[b].backoffUntil = some u → u ≤ s.now →
      AnswersSettled (exec (.offerBackoffExpiry b) s) (updBay s b fun x => { x with backoffUntil := none })) ∧
    (s.bays[b].backoffUntil = some u → s.now < u → exec (.offerBackoffExpiry b) s = .next s) ∧
    (s.bays[b].rgUntil = some u → u ≤ s.now →
      ∃ t, exec (.rgPulseEnd b) s = .next t ∧ t = updBay s b (fun x => { x with rgUntil := none }) ∧ outRG t b = false) ∧
    (s.bays[b].rgUntil = some u → s.now < u → exec (.rgPulseEnd b) s = .next s)

/-- The reactions of a bay controller. A permit lost in CONNECTING or DISCHARGING holds the bay; else KF true in CONNECTING leads to
DISCHARGING, the end condition to RESTING, CV_rel in RESTING to a rebound (R30, R33, R34, R38). A HELD bay whose hold set is empty goes where
its return state says (R40), a SAFE one offers its pack when the four conditions hold together (R44, R70), and every other state has no
reaction of its own. A non-empty hold set holds a working bay (R39); where a reaction of its own falls together with the hold, either comes
first (R33; log 7), and that a rebound in RESTING which comes first reads CONNECT with the holding row raised already is the model's choice
(log 41). The holding rows of a bay are TH1, TH2, EL1, EL2 and EL4 of its own, TH2 of a configured bay of its section, FD1 to
FD4 where a zone stands in its section, FD5 and TH3 by their section sets, and no other; each holds while raised and not inhibited (R37,
R132, R140). -/
def Obligations.BayReactions : Prop :=
  ∀ (b : BayIdx) (s : State),
    let x := s.bays[b]
    let m := s.meas[b]
    let chosen : State := { s with freeIndex := s.freeIndex + 1 }
    (x.state = .connecting ∨ x.state = .discharging →
      (connectPermit s b = false → bayReact s b = some (holdOrReact s b)) ∧
      (connectPermit s b = true → bayReact s b = ownReaction s b)) ∧
    (x.state = .resting → bayReact s b = ownReaction s b) ∧
    (x.state = .connecting → m.kf.filtered = false → ownReaction s b = none) ∧
    (x.state = .connecting → m.kf.filtered = true →
      let entered := updBay s b fun y => { y with state := .discharging, window := .none, endArmed := !m.ciEnd.filtered }
      ownReaction s b = some (if m.cvEnd.filtered = true then enterResting entered b else entered)) ∧
    (x.state = .discharging →
      ownReaction s b =
        if m.cvEnd.filtered = true ∨ m.ciEnd.filtered = true ∧ x.endArmed = true then some (enterResting s b) else none) ∧
    (x.state = .resting → ownReaction s b = if m.cvRel.filtered = true then some (rebound s b) else none) ∧
    (x.state = .held → held s b = true → bayReact s b = none) ∧
    (x.state = .held → held s b = false →
      (x.ret = some .connecting → bayReact s b = if connectPermit s b = true then some (enterConnecting s b) else none) ∧
      (x.ret = some .resting ∨ x.ret = some .safeRecheck → bayReact s b = some (enterResting s b))) ∧
    (x.state = .safe → bayReact s b = offerIfReady s b) ∧
    (x.state = .empty ∨ x.state = .loaded ∨ x.state = .admitted ∨ x.state = .offering ∨ x.state = .releasing ∨ x.state = .quarantine →
      bayReact s b = none ∧ ownReaction s b = none) ∧
    (held s b = true ↔ ∃ r, holdsBay s b r = true ∧ reacts s r = true) ∧
    (∀ r : Row, reacts s r = true ↔ (rowState s r).raised = true ∧ (rowState s r).inhibit = none) ∧
    baySection s b = 1#8 <<< (bayCfg s b).section_ ∧
    (∀ c : BayIdx,
      (holdsBay s b (.th1 c) = true ↔ c = b) ∧ (holdsBay s b (.el1 c) = true ↔ c = b) ∧ (holdsBay s b (.el2 c) = true ↔ c = b) ∧
      (holdsBay s b (.el4 c) = true ↔ c = b) ∧
      (holdsBay s b (.th2 c) = true ↔ c = b ∨ c.val < (cfg s).bayCount ∧ baySection s c = baySection s b)) ∧
    (∀ r : Row, r = .fd1 ∨ r = .fd2 ∨ r = .fd3 ∨ r = .fd4 →
      (holdsBay s b r = true ↔ ∃ z, zoneCfg s = some z ∧ 1#8 <<< z.section_ = baySection s b)) ∧
    (holdsBay s b .fd5 = true ↔ s.causes.remoteFire.sections &&& baySection s b ≠ 0) ∧
    (holdsBay s b .th3 = true ↔ s.causes.remoteThermal.sections &&& baySection s b ≠ 0) ∧
    (∀ r : Row, holdsBay s b r = true →
      r = .fd1 ∨ r = .fd2 ∨ r = .fd3 ∨ r = .fd4 ∨ r = .fd5 ∨ r = .th3 ∨
        ∃ c, r = .th1 c ∨ r = .th2 c ∨ r = .el1 c ∨ r = .el2 c ∨ r = .el4 c) ∧
    (held s b = true → workingState s b = true → obeyBay s b = holdOrReact s b) ∧
    (held s b = false ∨ workingState s b = false → obeyBay s b = s) ∧
    (workingState s b = true ↔
      x.state = .connecting ∨ x.state = .discharging ∨ x.state = .resting ∨ x.state = .safe ∨ x.state = .offering) ∧
    (ownReaction s b = none → holdOrReact s b = holdBay s b) ∧
    (ownReaction s b ≠ none → ∃ t, ownReaction chosen b = some t ∧
      (holdOrReact s b = holdBay chosen b ∨ holdOrReact s b = if held t b = true then holdBay t b else t))

/-- What the transitions of a bay controller do: a hold with its return state, CONNECTING with its closing window, RESTING with its timer
and the rebound check at the entry, a rebound by its count, a late rebound out of SAFE or OFFERING, the thermal quarantine, an offer queued
to another station or judged at once by the own zone, and the presence check after a reset (R28, R30, R31, R34, R35, R38 to R41, R44, R46 to
R48, R70, R77, R85). -/
def Obligations.BayTransitions : Prop :=
  ∀ (b : BayIdx) (s : State),
    let x := s.bays[b]
    let m := s.meas[b]
    let coil := x.state = .connecting ∨ x.state = .discharging
    let off : ContactorWindow := if coil then .opening (s.now + 400) else x.window
    let mismatchOff : Bool := if coil then x.mismatch && m.kf.filtered else x.mismatch
    let unoffered (u : State) : State :=
      if x.state = .offering then dropOffer (updHandover u b fun y => { y with entry := .none }) b else u
    let heldBay (u : State) (ret : ReturnState) : State :=
      updBay u b fun y =>
        { y with state := .held, ret := some ret, window := off, mismatch := mismatchOff, restUntil := none, backoffUntil := none }
    (coil → holdBay s b = heldBay s .connecting) ∧ (x.state = .resting → holdBay s b = heldBay s .resting) ∧
    (x.state = .safe ∨ x.state = .offering →
      holdBay s b = heldBay (updRecordOfBay (unoffered s) b fun r => { r with restPassed := false }) .safeRecheck) ∧
    (workingState s b = false → holdBay s b = s) ∧
    enterConnecting s b =
      updBay s b (fun y =>
        { y with
          state := .connecting, ret := none, window := .closing (s.now + 400), endArmed := false, restUntil := none
          backoffUntil := none, mismatch := y.mismatch && !m.kf.filtered }) ∧
    (let resting :=
       updBay s b fun y =>
         { y with state := .resting, ret := none, window := off, mismatch := mismatchOff
                  restUntil := some (s.now + (cfg s).restInterval * 2000) }
     enterResting s b = if m.cvRel.filtered = true then rebound resting b else resting) ∧
    (∀ r, recordOfBay s b = some r →
      let counted := updRecordOfBay s b fun r => { r with rebounds := r.rebounds + 1 }
      (r.rebounds < (cfg s).maxRebounds → connectPermit counted b = true → rebound s b = enterConnecting counted b) ∧
      (r.rebounds < (cfg s).maxRebounds → connectPermit counted b = false → rebound s b = heldBay counted .connecting) ∧
      ((cfg s).maxRebounds ≤ r.rebounds → rebound s b = enterQuarantine s b .rebound)) ∧
    (x.state = .safe ∨ x.state = .offering →
      lateRebound s b = rebound (updRecordOfBay (unoffered s) b fun r => { r with restPassed := false }) b) ∧
    (holdsPack s b = true → x.state ≠ .releasing → ∀ reason,
      enterQuarantine s b reason =
        updBay (unoffered s) b fun y =>
          { y with
            state := .quarantine, ret := none, window := off, mismatch := mismatchOff, restUntil := none, backoffUntil := none
            rgUntil := none, reason := some reason }) ∧
    (x.state = .releasing → ∀ reason,
      enterQuarantine s b reason =
        updBay (releaseReservation s b) b fun y =>
          { y with
            state := .quarantine, ret := none, restUntil := none, backoffUntil := none, rgUntil := none, reason := some reason }) ∧
    (let marked := updRecordOfBay s b fun r => { r with thermal := true }
     (holdsPack s b = true → thermalQuarantine s b = enterQuarantine marked b .thermal) ∧
     (x.state = .quarantine → thermalQuarantine s b = marked) ∧
     (x.state = .empty ∨ x.state = .loaded → thermalQuarantine s b = s)) ∧
    (∀ r, recordOfBay s b = some r →
      let ready := releasePermit s b = true ∧ x.backoffUntil = none ∧ ∀ e, r.residual = some e → e ≤ (cfg s).releaseLimit
      let outward := bayDest s b ≠ s.loader.address
      (ready → outward → s.bus.handover.length < 8 →
        offerIfReady s b =
          some
            { s with
              bays := s.bays.set b { x with state := .offering }
              handover := s.handover.set b { s.handover[b] with entry := .queued (r.id.getD []) (bayDest s b) s.now }
              bus := { s.bus with
                handover := s.bus.handover ++
                  [{ dest := bayDest s b
                     body := .offer
                       { id := r.id.getD [], cls := BitVec.ofNat 8 ((r.cls.map Fin.val).getD 0)
                         cells := BitVec.ofNat 8 (r.cells.getD 0), edecl := r.edecl.map (BitVec.ofNat 24)
                         qdis := BitVec.ofInt 32 r.qdis, edis := BitVec.ofInt 32 r.edis
                         residual := r.residual.map (BitVec.ofNat 24), degraded := r.degraded, restPassed := r.restPassed
                         originBay := BitVec.ofNat 8 b.val, dest := bayDest s b } }] } }) ∧
      (ready → ¬outward → offerIfReady s b = some (internalOffer s b r)) ∧
      (¬ready ∨ outward ∧ 8 ≤ s.bus.handover.length → offerIfReady s b = none) ∧
      (∀ z, zoneCfg s = some z →
        let refused : Option DeclineReason :=
          if ¬(s.zone.state = .ready ∨ s.zone.state = .running) then some .state
          else if reacts s .ac3 = true then some .blocked
          else if 4 ≤ s.zone.queue.length + claimCount s then some .full
          else if (match r.residual with | some e => decide (z.acceptLimit < e) | none => !z.acceptUndeclared) = true then some .residual
          else if r.degraded = true ∧ z.acceptDegraded = false then some .degraded else none
        (refused = none →
          internalOffer s b r =
            updBay
              (updRecordOfBay (updHandover s b fun y => { y with claim := true }) b fun r =>
                { r with dest := some s.loader.address, deadline := some (nodeCount s + (cfg s).transitLimit * 100) })
              b fun y => { y with state := .releasing, backoffUntil := none, rgUntil := some (s.now + 1000) }) ∧
        (∀ reason, refused = some reason →
          internalOffer s b r =
            updHandover
              (updBay s b fun y => { y with state := .safe, backoffUntil := some (s.now + (cfg s).offerBackoff * 2000) })
              b fun y => { y with lastDecline := some reason }))) ∧
    (recordOfBay s b = none → offerIfReady s b = none) ∧
    (let checked := updBay s b fun y => { y with presencePending := false }
     (m.pp.filtered = true →
       (x.state = .empty →
         presenceCheck s b = updBay checked b fun y => { y with state := .loaded, removed := false, foundAtStart := true }) ∧
       (x.state = .loaded → presenceCheck s b = updBay checked b fun y => { y with foundAtStart := true }) ∧
       (x.state ≠ .empty → x.state ≠ .loaded → presenceCheck s b = checked)) ∧
     (m.pp.filtered = false →
       (x.state = .empty ∨ x.state = .quarantine → presenceCheck s b = checked) ∧
       (x.state = .loaded → presenceCheck s b = updBay checked b fun y => { y with state := .empty, foundAtStart := false }) ∧
       (x.state = .releasing → presenceCheck s b = packLeaves checked b) ∧
       (holdsPack s b = true → x.state ≠ .releasing → presenceCheck s b = removePack checked b))) ∧
    (∀ level : Bool, inService s = true → bayConfigured s b = true → x.presencePending = true →
      (x.ppSeen + 1 < (cfg s).kd →
        exec (.discreteArrival [(.pp b, level)]) s = .next (pushInput s (.pp b, level))) ∧
      ((cfg s).kd ≤ x.ppSeen + 1 →
        AnswersArrival (exec (.discreteArrival [(.pp b, level)]) s) s (presenceCheck (pushInput s (.pp b, level)) b)))

/-- REST_TIMER_EXPIRY judges the pack in order: a rebound by its count, the fraction test, the release test, and else SAFE with the
rest-passed mark; an absent Edecl or Residual lets the pack pass (R17, R35, R36). -/
def Obligations.RestExpiryJudges : Prop :=
  ∀ (b : BayIdx) (until_ : Nat) (r : PackRecord) (s : State),
    inService s = true → s.bays[b].state = .resting → s.bays[b].restUntil = some until_ → until_ ≤ s.now → recordOfBay s b = some r →
    let stopped := updBay s b fun x => { x with restUntil := none }
    let counted := updRecordOfBay stopped b fun x => { x with rebounds := x.rebounds + 1 }
    let low := ∃ e : Nat, r.edecl = some e ∧ r.edis * 100 < (e : Int) * ((cfg s).pmin : Int)
    (s.meas[b].cvRel.filtered = true → r.rebounds < (cfg s).maxRebounds → connectPermit counted b = true →
      AnswersSettled (exec (.restTimerExpiry b) s) (enterConnecting counted b)) ∧
    (s.meas[b].cvRel.filtered = true → r.rebounds < (cfg s).maxRebounds → connectPermit counted b = false →
      AnswersSettled (exec (.restTimerExpiry b) s) (enterHeld counted b .connecting)) ∧
    (s.meas[b].cvRel.filtered = true → (cfg s).maxRebounds ≤ r.rebounds →
      AnswersSettled (exec (.restTimerExpiry b) s) (enterQuarantine stopped b .rebound)) ∧
    (s.meas[b].cvRel.filtered = false → low → AnswersSettled (exec (.restTimerExpiry b) s) (enterQuarantine stopped b .fraction)) ∧
    (∀ e : Nat, s.meas[b].cvRel.filtered = false → ¬low → r.residual = some e → (cfg s).releaseLimit < e →
      AnswersSettled (exec (.restTimerExpiry b) s) (enterQuarantine stopped b .residual)) ∧
    (s.meas[b].cvRel.filtered = false → ¬low → (∀ e : Nat, r.residual = some e → e ≤ (cfg s).releaseLimit) →
      AnswersSettled (exec (.restTimerExpiry b) s)
        (updRecordOfBay (updBay s b fun x => { x with state := .safe, ret := none, restUntil := none, backoffUntil := none }) b
          fun x => { x with restPassed := true }))

/-- The deadlines of the handover exchange. An offer QUEUED for 4 × P, and one whose answer window has run out, expire alike: SAFE with the
backoff started, no entry, the OFFER out of the FIFO, one more unanswered offer up to 3 (R45, R71, R75). A transit past its deadline is
MISSING and loses its internal slot, a release past it is given up with the bay back in SAFE, and a reservation past it goes with its slot
and raises AC4 (R46, R57, R58, R77, R78, R82, R87). A release given up withdraws the pack at another station and ends the claim at the own
zone. That an early OFFER_QUEUE_EXPIRY or ANSWER_WINDOW_EXPIRY changes nothing is the model's choice (log 2), and so is that a release past
its deadline does not wait for a pending presence check (log 17). -/
def Obligations.HandoverDeadlinesExpire : Prop :=
  (∀ (b : BayIdx) (id : PackId) (d : Addr) (queuedAt window : Nat) (s : State), inService s = true → s.bays[b].state = .offering →
    let u :=
      updRecordOfBay
        (updBay (dropOffer (updHandover s b fun x => { x with entry := .none }) b) b fun x =>
          { x with state := .safe, backoffUntil := some (s.now + (cfg s).offerBackoff * 2000) })
        b fun r => { r with unanswered := min 3 (r.unanswered + 1) }
    (s.handover[b].entry = .queued id d queuedAt →
      (queuedAt + 4 * Config.period s.loader.period ≤ s.now → AnswersSettled (exec (.offerQueueExpiry b) s) u) ∧
      (s.now < queuedAt + 4 * Config.period s.loader.period → exec (.offerQueueExpiry b) s = .next s)) ∧
    (s.handover[b].entry = .out id d queuedAt window →
      (window ≤ s.now → AnswersSettled (exec (.answerWindowExpiry b) s) u) ∧
      (s.now < window → exec (.answerWindowExpiry b) s = .next s))) ∧
  (∀ (id : PackId) (r : PackRecord) (d : Nat) (s : State),
    inService s = true → recordOfId s id = some r → r.deadline = some d → d ≤ nodeCount s →
    let missing := updRecordOfId s id fun x => { x with stage := .missing, stageSince := nodeTime s, deadline := none }
    (r.stage = .inTransit → r.origin ≠ some s.loader.address → AnswersSettled (exec (.transitDeadlineExpiry id) s) missing) ∧
    (r.stage = .inTransit → r.origin = some s.loader.address →
      AnswersSettled (exec (.transitDeadlineExpiry id) s)
        { missing with zone := { s.zone with queue := s.zone.queue.erase id } }) ∧
    (∀ b : BayIdx, r.stage = .atBay → recordOfBay s b = some r → s.bays[b].state = .releasing →
      let givenUp (u : State) : State :=
        updBay (updRecordOfBay u b fun x => { x with dest := none, deadline := none }) b fun x =>
          { x with state := .safe, backoffUntil := some (s.now + (cfg s).offerBackoff * 2000) }
      (r.dest = some s.loader.address →
        AnswersSettled (exec (.transitDeadlineExpiry id) s) (givenUp (updHandover s b fun x => { x with claim := false }))) ∧
      (∀ station, r.dest = some station → station ≠ s.loader.address →
        AnswersSettled (exec (.transitDeadlineExpiry id) s)
          (givenUp
            (if s.bus.handover.length < 8 then
              { s with bus := { s.bus with handover := s.bus.handover ++ [{ dest := station, body := .withdraw id }] } }
             else s)))) ∧
    (r.stage = .reserved →
      AnswersSettled (exec (.reservationExpiry id) s)
        (pulseRow
          { s with
            packs := { s.packs with records := s.packs.records.eraseP (hasId id) }
            zone := { s.zone with queue := s.zone.queue.erase id } } .ac4)))

/-- OFFER: one that fails the form check, and one that meets 8 frames in the handover FIFO, change nothing (R76, R79, R80). Another is
answered with an ACCEPT again for a repeat; else the first failing check of R80 declines it, and one that passes all seven makes the RESERVED
record, its slot and the ACCEPT at one event (R58, R79 to R81). -/
def Obligations.OfferIsAnswered : Prop :=
  ∀ (h : Header) (o : OfferPayload) (s : State), heardOwn s h = true →
    (offerFormed s o = true ↔
      o.dest = s.loader.address ∧ (1 ≤ o.id.length ∧ o.id.length ≤ 12) ∧ (∀ c ∈ o.id, 32 ≤ c.toNat ∧ c.toNat ≤ 126) ∧
        o.cls.toNat ≤ 3 ∧ (1 ≤ o.cells.toNat ∧ o.cells.toNat ≤ 250) ∧ o.originBay.toNat ≤ 3 ∧
        (∀ e, o.edecl = some e → e.toNat ≤ 1000000) ∧ -1000000 ≤ o.edis.toInt ∧ o.edis.toInt ≤ 1000000) ∧
    (offerFormed s o = false ∨ 8 ≤ s.bus.handover.length → exec (.offer h o) s = .next s) ∧
    (isRepeat s h.sender o = true ↔ ∃ r, recordOfId s o.id = some r ∧ r.stage = .reserved ∧ r.origin = some h.sender) ∧
    (offerFormed s o = true → s.bus.handover.length < 8 →
      let answer (u : State) (body : HandoverBody) : State :=
        { u with bus := { u.bus with handover := u.bus.handover ++ [{ dest := h.sender, body := body }] } }
      let residual : Option Nat := o.edecl.map fun e => min e.toNat ((e.toNat : Int) - o.edis.toInt).toNat
      (isRepeat s h.sender o = true → AnswersSettled (exec (.offer h o) s) (answer s (.accept o.id))) ∧
      (isRepeat s h.sender o = false → ∀ reason, declines s o = some reason →
        AnswersSettled (exec (.offer h o) s) (answer s (.decline o.id reason))) ∧
      (isRepeat s h.sender o = false → declines s o = none →
        AnswersSettled (exec (.offer h o) s)
          (answer
            { s with
              packs := { s.packs with records := s.packs.records ++
                [{ id := some o.id, stage := .reserved, bay := some (Fin.ofNat 4 o.originBay.toNat), origin := some h.sender
                   dest := none, cls := some (Fin.ofNat 4 o.cls.toNat), cells := some o.cells.toNat
                   edecl := o.edecl.map BitVec.toNat, qdis := o.qdis.toInt, edis := o.edis.toInt, residual := residual, acc := none
                   rebounds := 0, restPassed := o.restPassed, degraded := o.degraded, thermal := false, admittedAt := nodeTime s
                   stageSince := nodeTime s, unanswered := 0, deadline := some (nodeCount s + (cfg s).transitLimit * 100) }] }
              zone := { s.zone with queue := s.zone.queue ++ [o.id] } }
            (.accept o.id))) ∧
      (∀ z, zoneCfg s = some z →
        declines s o =
          if ¬(s.zone.state = .ready ∨ s.zone.state = .running) then some .state
          else if reacts s .ac3 = true then some .blocked
          else if 4 ≤ s.zone.queue.length + claimCount s then some .full
          else if 24 ≤ s.packs.records.length then some .full
          else if (recordOfId s o.id).isSome = true then some .duplicate
          else if (match residual with | some x => decide (z.acceptLimit < x) | none => !z.acceptUndeclared) = true then some .residual
          else if o.degraded = true ∧ z.acceptDegraded = false then some .degraded else none) ∧
      (zoneCfg s = none → declines s o = some .state))

/-- The four answers of the handover exchange. ACCEPT and DECLINE of a bay's offer, and late ones: the entry ends and the count goes to 0
either way; an ACCEPT with RELEASE true releases the pack, with RELEASE false it is withdrawn; a DECLINE is kept as the last reason; a late
answer from the destination of the bay that holds the pack sets its count to 0, and a late ACCEPT is withdrawn unless it repeats a release
under way (R45, R72, R74, R75). WITHDRAW takes back a reservation of its sender with its slot, and nothing else; LANDED ends a transit or a
missing pack as handed out, an internal one with its slot, and nothing else (R57, R81). -/
def Obligations.HandoverAnswersAreTaken : Prop :=
  ∀ (h : Header) (id : PackId) (reason : DeclineReason) (s : State), heardOwn s h = true → 1 ≤ id.length → id.length ≤ 12 →
    let ended (b : BayIdx) : State :=
      updRecordOfBay (dropOffer (updHandover s b fun x => { x with entry := .none }) b) b fun r => { r with unanswered := 0 }
    let safe (u : State) (b : BayIdx) : State :=
      updBay u b fun x => { x with state := .safe, backoffUntil := some (s.now + (cfg s).offerBackoff * 2000) }
    (∀ b, answeredBay s h.sender id = some b →
      (releasePermit s b = true →
        AnswersSettled (exec (.accept h id) s)
          (updBay
            (updRecordOfBay (ended b) b fun r =>
              { r with dest := some h.sender, deadline := some (nodeCount s + (cfg s).transitLimit * 100) })
            b fun x => { x with state := .releasing, backoffUntil := none, rgUntil := some (s.now + 1000) })) ∧
      (releasePermit s b = false →
        AnswersSettled (exec (.accept h id) s) (queueHandover (safe (ended b) b) h.sender (.withdraw id))) ∧
      AnswersSettled (exec (.decline h id reason) s)
        (updHandover (safe (ended b) b) b fun x => { x with lastDecline := some reason })) ∧
    (answeredBay s h.sender id = none →
      (releaseUnderWay s h.sender id = true → AnswersSettled (exec (.accept h id) s) (lateAnswer s h.sender id)) ∧
      (releaseUnderWay s h.sender id = false →
        AnswersSettled (exec (.accept h id) s) (queueHandover (lateAnswer s h.sender id) h.sender (.withdraw id))) ∧
      AnswersSettled (exec (.decline h id reason) s) (lateAnswer s h.sender id)) ∧
    (∀ b, answeredBay s h.sender id = some b ↔
      s.bays[b].state = .offering ∧ entryIs s.handover[b].entry h.sender id = true ∧
        ∀ c < b, ¬(s.bays[c].state = .offering ∧ entryIs s.handover[c].entry h.sender id = true)) ∧
    (releaseUnderWay s h.sender id = true ↔
      ∃ r, recordOfId s id = some r ∧ r.dest = some h.sender ∧
        (r.stage = .inTransit ∨ r.stage = .atBay ∧ ∃ b : BayIdx, r.bay = some b ∧ s.bays[b].state = .releasing)) ∧
    ((∃ r b, recordOfId s id = some r ∧ r.stage = .atBay ∧ r.bay = some b ∧ bayDest s b = h.sender) →
      lateAnswer s h.sender id = updRecordOfId s id fun r => { r with unanswered := 0 }) ∧
    ((¬∃ r b, recordOfId s id = some r ∧ r.stage = .atBay ∧ r.bay = some b ∧ bayDest s b = h.sender) →
      lateAnswer s h.sender id = s) ∧
    let removed : State := { s with packs := { s.packs with records := s.packs.records.eraseP (hasId id) } }
    let landed : State :=
      { removed with packs := { removed.packs with counters := { s.packs.counters with handedOut := s.packs.counters.handedOut + 1 } } }
    (∀ r, recordOfId s id = some r →
      (r.stage = .reserved → r.origin = some h.sender →
        AnswersSettled (exec (.withdraw h id) s) { removed with zone := { s.zone with queue := s.zone.queue.erase id } }) ∧
      (r.stage ≠ .reserved ∨ r.origin ≠ some h.sender → AnswersSettled (exec (.withdraw h id) s) s) ∧
      (r.stage = .inTransit → r.origin ≠ some s.loader.address → AnswersSettled (exec (.landed h id) s) landed) ∧
      (r.stage = .inTransit → r.origin = some s.loader.address →
        AnswersSettled (exec (.landed h id) s) { landed with zone := { s.zone with queue := s.zone.queue.erase id } }) ∧
      (r.stage = .missing → AnswersSettled (exec (.landed h id) s) landed) ∧
      (r.stage ≠ .inTransit → r.stage ≠ .missing → AnswersSettled (exec (.landed h id) s) s)) ∧
    (recordOfId s id = none →
      AnswersSettled (exec (.withdraw h id) s) s ∧ AnswersSettled (exec (.landed h id) s) s)

/-! ### Zone, fire logic, timers (05, 06, 08) -/

/-- The timers of the zone end when they have run: a purge in AIR with AT2, a settle in READY, the flood timer stopped for R103 to act on,
a feed deadline in AC7 while the head still feeds, and the FP pulse (R91, R94, R95, R103, R108). -/
def Obligations.ZoneIntervalsEnd : Prop :=
  ∀ (u : Nat) (s : State), inService s = true → u ≤ s.now →
    (s.zone.fpUntil = some u →
      ∃ t, exec .fpPulseEnd s = .next t ∧ t = { s with zone := { s.zone with fpUntil := none } } ∧ outFP t = false) ∧
    (s.zone.feedUntil = some u →
      (∀ id rest, s.zone.queue = id :: rest → slotStage s id = some .feeding →
        AnswersSettled (exec .feedDeadlineExpiry s) (pulseRow { s with zone := { s.zone with feedUntil := none } } .ac7)) ∧
      ((∀ id rest, s.zone.queue = id :: rest → slotStage s id ≠ some .feeding) →
        AnswersSettled (exec .feedDeadlineExpiry s) { s with zone := { s.zone with feedUntil := none } })) ∧
    (s.zone.state = .purging → s.zone.purgeUntil = some u →
      AnswersSettled (exec .purgeTimerExpiry s)
        (pulseRow
          { s with
            zone := { s.zone with
              state := .air, since := nodeCount s, purgeUntil := none, settleUntil := none, floodUntil := none, topUp := false
              fpUntil := none } } .at2)) ∧
    (s.zone.state = .inert → s.zone.settleUntil = some u →
      AnswersSettled (exec .settleTimerExpiry s)
        { s with zone := { s.zone with state := .ready, since := nodeCount s, settleUntil := none, fpUntil := none } }) ∧
    (s.zone.state = .fire → s.zone.floodUntil = some u →
      AnswersSettled (exec .floodTimerExpiry s) { s with zone := { s.zone with floodUntil := none } })

/-- The zone's transitions of its own: what stands out of FIRE, PURGING, INERT, RUNNING and ALARM, and when each stays (R94, R95, R99, R101,
R103, R122), how it gives way to its rows (R98 to R100), a raising of FD1 to FD4 (R102, R104), and the start of a feed (R60, R107). The
zone hold set holds AT1, AT3, AT4, AT5, and FD5 while its section set has the zone's section, each while raised and not inhibited (R100,
R132). The mark of a zone kept in FIRE through a warm reset is the model's own field (log 38). -/
def Obligations.ZoneTransitions : Prop :=
  ∀ (z : ZoneConfig) (s : State), zoneCfg s = some z →
    (fireRaised s = true ↔ raised s .fd1 = true ∨ raised s .fd2 = true ∨ raised s .fd3 = true ∨ raised s .fd4 = true) ∧
    (zoneHeld s = true ↔
      ∃ r, (r = .at1 ∨ r = .at3 ∨ r = .at4 ∨ r = .at5 ∨ r = .fd5 ∧ s.causes.remoteFire.sections &&& (1#8 <<< z.section_) ≠ 0) ∧
        (rowState s r).raised = true ∧ (rowState s r).inhibit = none) ∧
    (s.zone.state = .fire → s.zone.floodUntil = none → fireRaised s = false → s.fire.zoneKept = false →
      ∃ t, zoneReact s = some t ∧ t.zone.state = (if z.lockoutOnFire = true then .lockout else .air) ∧ t.zone.queue = s.zone.queue) ∧
    (s.zone.state = .fire → s.zone.floodUntil ≠ none ∨ fireRaised s = true ∨ s.fire.zoneKept = true → zoneReact s = none) ∧
    (s.zone.state = .purging → s.zmeas.coInert.filtered = true →
      ∃ t, zoneReact s = some t ∧ t.zone.state = .inert ∧ t.zone.settleUntil = some (s.now + z.settle * 2000) ∧
        t.zone.purgeUntil = none ∧ t.zone.topUp = s.zmeas.coTop.filtered) ∧
    (s.zone.state = .purging → s.zmeas.coInert.filtered = false → zoneReact s = none) ∧
    (s.zone.state = .inert → s.zmeas.coInert.filtered = false →
      ∃ t, zoneReact s = some t ∧ t.zone.state = .purging ∧ t.zone.purgeUntil = some (s.now + z.purgeLimit * 2000) ∧
        t.zone.settleUntil = none ∧ t.zone.topUp = false) ∧
    (s.zone.state = .inert → s.zmeas.coInert.filtered = true → zoneReact s = none) ∧
    (s.zone.state = .running → runPermit s = false → ∃ t, zoneReact s = some t ∧ t.zone.state = .ready ∧ t.zone.fpUntil = none) ∧
    (s.zone.state = .running → runPermit s = true → zoneReact s = none) ∧
    (s.zone.state = .alarm → zoneHeld s = false → purgePermit s = true →
      ∃ t, zoneReact s = some t ∧ t.zone.state = .purging ∧ t.zone.purgeUntil = some (s.now + z.purgeLimit * 2000)) ∧
    (s.zone.state = .alarm → zoneHeld s = true ∨ purgePermit s = false → zoneReact s = none) ∧
    (s.zone.state = .air ∨ s.zone.state = .ready ∨ s.zone.state = .lockout → zoneReact s = none) ∧
    (zoneHeld s = true →
      s.zone.state = .purging ∨ s.zone.state = .inert ∨ s.zone.state = .ready ∨ s.zone.state = .running →
      (obeyZone s).zone.state = .alarm ∧ (obeyZone s).zone.purgeUntil = none ∧ (obeyZone s).zone.settleUntil = none) ∧
    (zoneHeld s = false → s.zone.state = .running → chamberTripped s = true → (obeyZone s).zone.state = .ready) ∧
    (s.zone.state = .air ∨ s.zone.state = .alarm ∨ s.zone.state = .fire ∨ s.zone.state = .lockout → obeyZone s = s) ∧
    (s.zone.state ≠ .lockout →
      (enterFire s).zone.state = .fire ∧ (enterFire s).zone.floodUntil = some (s.now + z.flood * 2000) ∧
        (enterFire s).zone.queue = s.zone.queue) ∧
    (s.zone.state = .lockout → enterFire s = s) ∧
    (feedPermit s = false → feedReact s = none) ∧
    (feedPermit s = true → ∃ id rest, s.zone.queue = id :: rest ∧
      feedReact s = some
        { updRecordOfId s id (fun r => { r with stage := .feeding, stageSince := nodeTime s }) with
          zone := { s.zone with fpUntil := some (s.now + 1000), feedUntil := some (s.now + z.feedLimit * 2000) } } ∧
      slotStage (updRecordOfId s id fun r => { r with stage := .feeding, stageSince := nodeTime s }) id = some .feeding)

/-- The persistence timer of an active detector makes FD2's part true; the re-formation timer empties the held set and ends the keeping of
a zone in FIRE, whose mark is the model's own field (R122; log 38); a TIMING dwell timer counts one at each 100 ms and is DONE exactly at
its preset; an inhibit ends at its expiry with nothing else of the row changed (R116, R117, R123, R140, R161). A timer whose input is false
is IDLE; on a true one an IDLE timer starts, a credited one from the age its peer reported, and a running one goes on; an event leaves each
timer so, and one that another timer's done flag feeds by the flags as they stand after it, along the whole chain (R158, R160, R162, R163).
That a command taken before its interval has run changes nothing is the model's choice (log 2). -/
def Obligations.TimersOfFireDwellAndInhibit : Prop :=
  (∀ (u : Nat) (s : State), inService s = true →
    (∀ n : Fin 4, s.fire.det[n].active = true → s.fire.det[n].persistUntil = some u → u ≤ nodeCount s →
      AnswersSettled (exec (.persistenceTimerExpiry n) s)
        { s with fire := { s.fire with det := s.fire.det.set n { s.fire.det[n] with persistUntil := none, persisted := true } } }) ∧
    (∀ n : Fin 4, s.fire.det[n].persistUntil = some u → nodeCount s < u → exec (.persistenceTimerExpiry n) s = .next s) ∧
    (s.fire.reformUntil = some u → u ≤ s.now →
      AnswersSettled (exec .reformationTimerExpiry s)
        { s with fire := { s.fire with held := #v[false, false, false, false], reformUntil := none, zoneKept := false } }) ∧
    (s.fire.reformUntil = some u → s.now < u → exec .reformationTimerExpiry s = .next s)) ∧
  (∀ (d : Fin 16) (def_ : TimerDef) (s : State), inService s = true → timerDef s d.val = some def_ → s.timers[d].state = .timing →
    s.timers[d].stepFrom + 10 ≤ nodeCount s →
    AnswersSettled (exec (.dwellTimerStep d) s)
      { s with
        timers := s.timers.set d
          { state := if s.timers[d].elapsed + 1 = def_.preset then .done else .timing
            elapsed := s.timers[d].elapsed + 1, stepFrom := s.timers[d].stepFrom + 10 } }) ∧
  (∀ (d : Fin 16) (s : State), s.timers[d].state ≠ .timing ∨ nodeCount s < s.timers[d].stepFrom + 10 →
    exec (.dwellTimerStep d) s = .next s) ∧
  (∀ (r : Row) (u : Nat) (s : State), inService s = true → (rowState s r).inhibit = some u →
    (u ≤ s.now → ∃ v, AnswersSettled (exec (.inhibitExpiry r) s) v ∧
      rowState v r = { rowState s r with inhibit := none } ∧ (∀ x, x ≠ r → rowState v x = rowState s x) ∧
      { v with causes := { v.causes with rows := s.causes.rows } } = s) ∧
    (s.now < u → exec (.inhibitExpiry r) s = .next s)) ∧
  (∀ (s : State) (t : TimerDef) (x : Timer), 1 ≤ t.preset →
    timerAfter s t false x = { state := .idle, elapsed := 0, stepFrom := 0 } ∧
    (x.state ≠ .idle → timerAfter s t true x = x) ∧
    (x.state = .idle → ¬(t.input.positive = true ∧ (t.input.kind = some .peerZoneReady ∨ t.input.kind = some .peerZoneRunning)) →
      timerAfter s t true x = { state := .timing, elapsed := 0, stepFrom := nodeCount s }) ∧
    (∀ (p : Fin 12) (report : StatusPayload), x.state = .idle → t.input.positive = true →
      t.input.kind = some .peerZoneReady ∨ t.input.kind = some .peerZoneRunning → t.input.index = some p.val →
      s.peers[p].reported = some report →
      (report.zoneAge.toNat < t.preset →
        timerAfter s t true x = { state := .timing, elapsed := report.zoneAge.toNat, stepFrom := nodeCount s }) ∧
      (t.preset ≤ report.zoneAge.toNat →
        timerAfter s t true x = { state := .done, elapsed := t.preset, stepFrom := nodeCount s }))) ∧
  (∀ (s : State) (before : Vector Timer 16) (d : Fin 16), DefsSound (cfg s).timers →
    (∀ t, timerDef s d.val = some t → t.input.kind ≠ some .dwell →
      (timersAfter s before)[d] = timerAfter s t (literalHolds s before t.input) before[d]) ∧
    (timerDef s d.val = none → (timersAfter s before)[d] = before[d]) ∧
    (∀ t, timerDef s d.val = some t →
      let after := (timersAfter s before)[d]
      (literalHolds s (timersAfter s before) t.input = false → after = { state := .idle, elapsed := 0, stepFrom := 0 }) ∧
      (literalHolds s (timersAfter s before) t.input = true →
        after.state ≠ .idle ∧
        (t.input.kind = some .dwell → before[d].state = .idle → after = { state := .timing, elapsed := 0, stepFrom := nodeCount s }) ∧
        (t.input.kind = some .dwell → before[d].state ≠ .idle → literalHolds s before t.input = true → after = before[d]))))

/-! ### Peers and the bus (09, 10) -/

/-- A STATUS of a watched peer: an older frame is discarded while the entry is in use; else the entry takes the frame, and is judged for
period, mode and earliness. The own sections that a FRESH peer reports raise a lowered remote row with that peer alone, or join a raised
one with at most four originators; a class with none leaves its row (R134). The peer's zone age sets back each credited timer of that peer
which runs ahead of it, a DONE one with its steps timed from the frame (R164); nothing else outside peers, rows, log and dwell timers is
touched (R134, R166 to R173). -/
def Obligations.StatusIsJudged : Prop :=
  ∀ (h : Header) (p : StatusPayload) (i : Fin 12) (s : State), heardBroadcast s h = true → watchIndex s h.sender = some i →
    let e := s.peers[i]
    let stamp : BitVec 32 := BitVec.ofNat 32 (s.now / 2)
    let inUse := e.state ≠ .absent ∧ e.state ≠ .stale
    (∀ last, inUse → e.lastSeq = some last → (h.seq - last = 0 ∨ 128 ≤ (h.seq - last).toNat) → exec (.status h p) s = .next s) ∧
    ((inUse → ∃ last, e.lastSeq = some last ∧ 1 ≤ (h.seq - last).toNat ∧ (h.seq - last).toNat ≤ 127) →
      ∃ u, AnswersSettled (exec (.status h p) s) u ∧
        (∀ j, j ≠ i → u.peers[j] = s.peers[j]) ∧
        u.peers[i].lastSeq = some h.seq ∧ u.peers[i].lastArrival = some stamp ∧ u.peers[i].reported = some p ∧
        u.peers[i].staleAt = some (s.now / 2 * 2 + 4 * Config.period s.loader.period) ∧
        (let foreign := p.period ≠ s.loader.period ∨ p.mode = .configFault
         let early := inUse ∧ ∃ a, e.lastArrival = some a ∧ (stamp - a).toNat < Config.period s.loader.period / 4
         (foreign → u.peers[i].state = .incompatible ∧ u.peers[i].early = 0 ∧ u.peers[i].regular = 0) ∧
         (¬foreign → early → u.peers[i].early = min 255 (e.early + 1) ∧ u.peers[i].regular = 0) ∧
         (¬foreign → ¬early → u.peers[i].early = 0 ∧ u.peers[i].regular = min 255 (e.regular + 1)) ∧
         (¬foreign → e.state = .absent ∨ e.state = .stale ∨ e.state = .incompatible → u.peers[i].state = .fresh) ∧
         (¬foreign → e.state = .fresh → (u.peers[i].state = .suspect ↔ early ∧ 2 ≤ u.peers[i].early) ∧
           (u.peers[i].state = .suspect ∨ u.peers[i].state = .fresh)) ∧
         (¬foreign → e.state = .suspect → (u.peers[i].state = .fresh ↔ ¬early ∧ 4 ≤ u.peers[i].regular) ∧
           (u.peers[i].state = .suspect ∨ u.peers[i].state = .fresh))) ∧
        (u.peers[i].state ≠ .fresh → u.causes = s.causes ∧ u.timers = s.timers) ∧
        (u.peers[i].state = .fresh →
          (∀ (c : TripClass) (x : Sections),
            c = .fire ∧ x = p.fireSections &&& ownSections s ∨ c = .thermal ∧ x = p.thermalSections &&& ownSections s →
            (x = 0 → rowState u (remoteRow c) = rowState s (remoteRow c) ∧ remoteOf u c = remoteOf s c) ∧
            (x ≠ 0 → raised s (remoteRow c) = false →
              raised u (remoteRow c) = true ∧ remoteOf u c = { sections := x, originators := [h.sender] }) ∧
            (x ≠ 0 → raised s (remoteRow c) = true →
              rowState u (remoteRow c) = rowState s (remoteRow c) ∧ (remoteOf u c).sections = (remoteOf s c).sections ||| x ∧
              (h.sender ∈ (remoteOf s c).originators ∨ 4 ≤ (remoteOf s c).originators.length →
                (remoteOf u c).originators = (remoteOf s c).originators) ∧
              (h.sender ∉ (remoteOf s c).originators → (remoteOf s c).originators.length < 4 →
                (remoteOf u c).originators = (remoteOf s c).originators ++ [h.sender]))) ∧
          (∀ r : Row, r ≠ .fd5 → r ≠ .th3 → rowState u r = rowState s r) ∧
          (∀ d : Fin 16,
            let ahead := ∃ def_ : TimerDef, timerDef s d.val = some def_ ∧ def_.input.positive = true ∧
              (def_.input.kind = some .peerZoneReady ∧ (p.zoneState = .ready ∨ p.zoneState = .running) ∨
                def_.input.kind = some .peerZoneRunning ∧ p.zoneState = .running) ∧
              p.zonePresent = true ∧ def_.input.index = some i.val ∧ s.timers[d].state ≠ .idle ∧
              p.zoneAge.toNat < s.timers[d].elapsed
            (ahead → s.timers[d].state = .done →
              u.timers[d] = { state := .timing, elapsed := p.zoneAge.toNat, stepFrom := nodeCount s }) ∧
            (ahead → s.timers[d].state = .timing → u.timers[d] = { s.timers[d] with elapsed := p.zoneAge.toNat }) ∧
            (¬ahead → u.timers[d] = s.timers[d]))) ∧
        { u with peers := s.peers, causes := s.causes, timers := s.timers } = s)

/-- A TRIP with a section raises the lowered remote row of its class with that sender alone, and joins a raised one with at most four
originators; one with no section changes nothing. At a raised row whose condition was false it clears the acknowledgement, and nothing else
of that row, nor the log, changes at a raised row; the other class keeps its record (R127, R133). -/
def Obligations.TripRaisesRemoteRow : Prop :=
  ∀ (h : Header) (cls : TripClass) (sections : Sections) (s : State), heardBroadcast s h = true →
    (sections = 0 → exec (.trip h cls sections) s = .next s) ∧
    (sections ≠ 0 →
      ∃ u, AnswersSettled (exec (.trip h cls sections) s) u ∧ raised u (remoteRow cls) = true ∧
        (∀ other, other ≠ cls → remoteOf u other = remoteOf s other) ∧
        (raised s (remoteRow cls) = false →
          remoteOf u cls = { sections := sections, originators := [h.sender] } ∧
          rowState u (remoteRow cls) = rowState (raiseRow s (remoteRow cls)) (remoteRow cls) ∧
          u.causes.log = (raiseRow s (remoteRow cls)).causes.log ∧ u.causes.episode = (raiseRow s (remoteRow cls)).causes.episode ∧
          u.causes.nextEntry = s.causes.nextEntry + 1) ∧
        (raised s (remoteRow cls) = true →
          ((rowState s (remoteRow cls)).condition = false →
            rowState u (remoteRow cls) = { rowState s (remoteRow cls) with acked := false }) ∧
          ((rowState s (remoteRow cls)).condition = true → rowState u (remoteRow cls) = rowState s (remoteRow cls)) ∧
          u.causes.log = s.causes.log ∧ u.causes.episode = s.causes.episode ∧ u.causes.nextEntry = s.causes.nextEntry ∧
          (remoteOf u cls).sections = (remoteOf s cls).sections ||| sections ∧
          (h.sender ∈ (remoteOf s cls).originators ∨ 4 ≤ (remoteOf s cls).originators.length →
            (remoteOf u cls).originators = (remoteOf s cls).originators) ∧
          (h.sender ∉ (remoteOf s cls).originators → (remoteOf s cls).originators.length < 4 →
            (remoteOf u cls).originators = (remoteOf s cls).originators ++ [h.sender])) ∧
        (∀ x, x ≠ remoteRow cls → rowState u x = rowState s x) ∧ { u with causes := s.causes } = s)

/-- The staleness deadline of an entry in use makes it STALE with its report and counts kept; the start window ends; a STATUS falls due P
after the last one left, with its 2 × P watch; and the watch's end makes LN2's condition true (R172, R174, R175, R178). -/
def Obligations.PeerAndStatusDeadlines : Prop :=
  ∀ (u : Nat) (s : State), u ≤ s.now →
    (∀ p : Fin 12, inService s = true → s.peers[p].staleAt = some u →
      s.peers[p].state = .fresh ∨ s.peers[p].state = .suspect ∨ s.peers[p].state = .incompatible →
      AnswersSettled (exec (.stalenessDeadlineExpiry p) s)
        { s with peers := s.peers.set p { s.peers[p] with state := .stale, staleAt := none } }) ∧
    (inService s = true → s.startUntil = some u → AnswersSettled (exec .startWindowExpiry s) { s with startUntil := none }) ∧
    (s.bus.statusDueAt = some u → s.bus.statusPending = false →
      (inService s = true →
        exec .statusDue s =
          .next { s with bus := { s.bus with
            statusPending := true, statusDueAt := none, watchUntil := some (u + 2 * Config.period s.loader.period) } }) ∧
      (s.loader.mode = .configFault →
        exec .statusDue s =
          .next { s with bus := { s.bus with statusPending := true, statusDueAt := none, watchUntil := none } })) ∧
    (inService s = true → s.bus.statusPending = true → s.bus.watchUntil = some u →
      AnswersSettled (exec .transmitBlockedWatch s) { s with bus := { s.bus with blocked := true, watchUntil := none } })

/-- TRANSMIT_ATTEMPT in service takes the first source that holds a frame, in the order of R185, with the next sequence, and leaves every
source as it was; with none, with a backoff or with an attempt running, nothing changes (R181, R185). A STATUS reports the items of R176
and R137, and the leading cause of R136 under a ranking that names every class. A frame's payload has the length of its kind and at most 48
bytes, and a REPLY is kind, sequence and result code, with nothing more where it has no items (R181, R191). -/
def Obligations.AttemptTakesFirstSource : Prop :=
  (∀ s : State, inService s = true →
    let takes (f : TxFrame) : Prop :=
      exec .transmitAttempt s =
        .next { s with bus := { s.bus with attempt := some { frame := f, seq := s.bus.sequence, held := true } } }
    (s.bus.attempt = none → s.bus.backoffUntil = none →
      (∀ x, s.bus.tripFire = some x → takes (.trip .fire x)) ∧
      (∀ x, s.bus.tripFire = none → s.bus.tripThermal = some x → takes (.trip .thermal x)) ∧
      (s.bus.tripFire = none → s.bus.tripThermal = none → s.bus.statusPending = true → takes (.status (serviceStatus s))) ∧
      (∀ f rest, s.bus.tripFire = none → s.bus.tripThermal = none → s.bus.statusPending = false →
        s.bus.handover = f :: rest → takes (.handover f)) ∧
      (∀ r rest, s.bus.tripFire = none → s.bus.tripThermal = none → s.bus.statusPending = false → s.bus.handover = [] →
        s.bus.replies = r :: rest → takes (.reply r)) ∧
      (s.bus.tripFire = none → s.bus.tripThermal = none → s.bus.statusPending = false → s.bus.handover = [] →
        s.bus.replies = [] → exec .transmitAttempt s = .next s)) ∧
    (s.bus.attempt ≠ none ∨ s.bus.backoffUntil ≠ none → exec .transmitAttempt s = .next s)) ∧
  (∀ s : State,
    let p := serviceStatus s
    (s.loader.mode = .operating → p.mode = .operating) ∧ (s.loader.mode = .maintenance → p.mode = .maintenance) ∧
    p.period = s.loader.period ∧ p.fault = 0 ∧
    (∀ b : BayIdx, p.bays[b] = if bayConfigured s b = true then s.bays[b].state else .empty) ∧
    (hasZone s = false →
      p.zonePresent = false ∧ p.zoneState = .air ∧ p.zoneAge = 0 ∧ p.freeSlots = 0 ∧ p.accepting = false ∧ p.lockout = false) ∧
    (hasZone s = true →
      p.zonePresent = true ∧ p.zoneState = s.zone.state ∧ p.zoneAge.toNat = min 65535 ((s.now / 20 - s.zone.since) / 10) ∧
        p.freeSlots.val = 4 - (s.zone.queue.length + claimCount s) ∧
        (p.accepting = true ↔ (s.zone.state = .ready ∨ s.zone.state = .running) ∧ reacts s .ac3 = false) ∧
        (p.lockout = true ↔ s.zone.state = .lockout)) ∧
    (∀ c : CauseClass, p.classes &&& classBit c ≠ 0 ↔ ∃ r, rowClass r = c ∧ raised s r = true) ∧
    (raised s .fd1 = true ∨ raised s .fd2 = true ∨ raised s .fd3 = true ∨ raised s .fd4 = true → p.fireSections = zoneSection s) ∧
    (raised s .fd1 = false → raised s .fd2 = false → raised s .fd3 = false → raised s .fd4 = false → p.fireSections = 0) ∧
    (∀ k < 8, p.thermalSections.getLsbD k = true ↔ ∃ b : BayIdx, raised s (.th2 b) = true ∧ (baySection s b).getLsbD k = true) ∧
    p.leading.val = ((leadingCause s).map rowPosition).getD 0) ∧
  (∀ s : State, (∀ c : CauseClass, c ≠ .fire → c ∈ (cfg s).ranking.toList) →
    let rank (r : Row) : Nat := (CauseClass.fire :: (cfg s).ranking.toList).idxOf (rowClass r)
    (leadingCause s = none ↔ ∀ r, reacts s r = false) ∧
    (∀ r, leadingCause s = some r ↔
      reacts s r = true ∧ ∀ x, reacts s x = true → rank r < rank x ∨ rank r = rank x ∧ rowPosition r ≤ rowPosition x)) ∧
  (∀ f : TxFrame,
    let length := (framePayload f).2.2.length
    (∀ p, f = .status p → length = 18) ∧ (∀ c x, f = .trip c x → length = 2) ∧
    (∀ d o, f = .handover { dest := d, body := .offer o } → o.id.length ≤ 12 → length = 32) ∧
    (∀ d id, f = .handover { dest := d, body := .accept id } ∨ f = .handover { dest := d, body := .withdraw id } ∨
      f = .handover { dest := d, body := .landed id } → id.length ≤ 12 → length = 13) ∧
    (∀ d id r, f = .handover { dest := d, body := .decline id r } → id.length ≤ 12 → length = 14) ∧
    (∀ r, f = .reply r →
      3 ≤ length ∧ length ≤ 48 ∧ (framePayload f).2.2.take 3 = [r.kind, r.seq, codeByte (resultCode r.result)] ∧
        (r.payload = .none → length = 3)))

/-- How an attempt ends. A frame leaves in service: the attempt ends, the sequence advances by one, and the source and owner take the
leaving: a TRIP's carried sections go and later ones stay, the next STATUS is counted from here, an OFFER's entry goes OUT with its window,
a handover frame that its owner took out meanwhile is not looked for, a REPLY goes (R71, R142, R175, R178, R181, R188). In CONFIG_FAULT the
STATUS that leaves counts the next one from here in the same way (R175, R177, R201). A COLLISION ends the attempt with its frame left in
its source and starts a backoff of 1 to 8 slot times, whatever the draw (log 8); BACKOFF_EXPIRY ends it; neither changes the sequence or
anything outside the transmitter (R187). The index of free values is the model's own (log 23), and that an early BACKOFF_EXPIRY changes
nothing is the model's choice (log 2). -/
def Obligations.AttemptsEnd : Prop :=
  (∀ (a : Attempt) (s : State), s.bus.attempt = some a →
    ∃ n : Nat, 1 ≤ n ∧ n ≤ 8 ∧
      exec .collision s =
        .next { s with bus := { s.bus with attempt := none, backoffUntil := some (s.now + n) }, freeIndex := s.freeIndex + 1 }) ∧
  (∀ (u : Nat) (s : State), s.bus.backoffUntil = some u →
    (u ≤ s.now → exec .backoffExpiry s = .next { s with bus := { s.bus with backoffUntil := none } }) ∧
    (s.now < u → exec .backoffExpiry s = .next s)) ∧
  (∀ (a : Attempt) (s : State), inService s = true → s.bus.attempt = some a →
    let sent : Bus := { s.bus with attempt := none, sequence := s.bus.sequence + 1 }
    (∀ carried pending, a.frame = .trip .fire carried → s.bus.tripFire = some pending →
      AnswersSettled (exec .frameLeaves s)
        { s with bus := { sent with tripFire := if pending &&& ~~~carried = 0 then none else some (pending &&& ~~~carried) } }) ∧
    (∀ carried pending, a.frame = .trip .thermal carried → s.bus.tripThermal = some pending →
      AnswersSettled (exec .frameLeaves s)
        { s with bus := { sent with tripThermal := if pending &&& ~~~carried = 0 then none else some (pending &&& ~~~carried) } }) ∧
    (∀ p, a.frame = .status p →
      AnswersSettled (exec .frameLeaves s)
        { s with bus := { sent with
          statusPending := false, statusDueAt := some (s.now + Config.period s.loader.period), watchUntil := none
          blocked := false } }) ∧
    (∀ (d : Addr) (o : OfferPayload) (b : BayIdx) (id : PackId) (dst : Addr) (t : Nat),
      a.frame = .handover { dest := d, body := .offer o } → a.held = true → o.originBay.toNat = b.val →
      s.handover[b].entry = .queued id dst t →
      AnswersSettled (exec .frameLeaves s)
        { s with
          bus := { sent with handover := s.bus.handover.drop 1 }
          handover := s.handover.set b { s.handover[b] with entry := .out id dst t (s.now + 4 * Config.period s.loader.period) } }) ∧
    (∀ f, a.frame = .handover f → a.held = true → (∀ o, f.body ≠ .offer o) →
      AnswersSettled (exec .frameLeaves s) { s with bus := { sent with handover := s.bus.handover.drop 1 } }) ∧
    (∀ f, a.frame = .handover f → a.held = false → AnswersSettled (exec .frameLeaves s) { s with bus := sent }) ∧
    (∀ r, a.frame = .reply r →
      AnswersSettled (exec .frameLeaves s) { s with bus := { sent with replies := s.bus.replies.drop 1 } })) ∧
  (∀ (a : Attempt) (p : StatusPayload) (s : State), s.loader.mode = .configFault → s.bus.attempt = some a → a.frame = .status p →
    exec .frameLeaves s =
      .next { s with bus := { s.bus with
        attempt := none, sequence := s.bus.sequence + 1, statusPending := false
        statusDueAt := some (s.now + Config.period s.loader.period), watchUntil := none, blocked := false } })

/-- FRAME_DISCARDED, every REPLY received and a STATUS of a station that is not watched change nothing, and a frame with a wrong check value
or length is a FRAME_DISCARDED (R166, R182, R183, R184). -/
def Obligations.DiscardedFramesChangeNothing : Prop :=
  (∀ (raw : List Byte) (s : State), exec (.frameDiscarded raw) s = .next s) ∧
  (∀ (h : Header) (payload : List Byte) (s : State), exec (.replyReceived h payload) s = .next s) ∧
  (∀ (h : Header) (p : StatusPayload) (s : State), watchIndex s h.sender = none → exec (.status h p) s = .next s) ∧
  (∀ raw : List Byte,
    raw.length ≠ 8 + (byteAt raw 5).toNat ∨ crc16 (raw.take (raw.length - 2)) ≠ word16At raw (raw.length - 2) →
    decodeFrame raw = .frameDiscarded raw)

/-! ### Requests (10.6) -/

/-- ADMIT: the checks of R52 in their order, and an admission with its record, thresholds and cleared comparators (R11, R12, R24, R27, R52,
R53). -/
def Obligations.AdmitChecksAndRecords : Prop :=
  ∀ (h : Header) (bay : Byte) (id : PackId) (cls cells : Byte) (edecl : Option (BitVec 24)) (s : State), requestTaken s h = true →
    let o := exec (.admitPack h bay id cls cells edecl) s
    let formed :=
      cls.toNat ≤ 3 ∧ 1 ≤ cells.toNat ∧ cells.toNat ≤ 250 ∧ (∀ e, edecl = some e → e.toNat ≤ 1000000) ∧
        1 ≤ id.length ∧ id.length ≤ 12 ∧ ∀ c ∈ id, 32 ≤ c.toNat ∧ c.toNat ≤ 126
    let c : ClassConfig := (cfg s).classes[(Fin.ofNat 4 cls.toNat : Fin 4)]
    let vend := cells.toNat * c.vendCell / 10
    let vrel := cells.toNat * c.vrelCell / 10
    (bayArg s bay = none ↔ 4 ≤ bay.toNat ∨ (cfg s).bayCount ≤ bay.toNat) ∧
    (bayArg s bay = none → Refuses o s h 1 .range) ∧
    (∀ b, bayArg s bay = some b →
      (¬formed → Refuses o s h 1 .range) ∧
      (formed → s.bays[b].state ≠ .loaded → Refuses o s h 1 .state) ∧
      (formed → s.bays[b].state = .loaded →
        (recordOfId s id ≠ none → Refuses o s h 1 .duplicate) ∧
        (recordOfId s id = none → 24 ≤ s.packs.records.length → Refuses o s h 1 .full) ∧
        (recordOfId s id = none → s.packs.records.length < 24 →
          (65534 < vend ∨ 65534 < vrel → Refuses o s h 1 .range) ∧
          (vend ≤ 65534 → vrel ≤ 65534 →
            Performs o
              { s with
                packs := { s.packs with
                  counters := { s.packs.counters with admitted := s.packs.counters.admitted + 1 }
                  records := s.packs.records ++
                    [{ id := some id, stage := .atBay, bay := some b, origin := none, dest := none, cls := some (Fin.ofNat 4 cls.toNat)
                       cells := some cells.toNat, edecl := edecl.map BitVec.toNat, qdis := 0, edis := 0
                       residual := edecl.map BitVec.toNat, acc := some { qa := 0, ea := 0 }, rebounds := 0, restPassed := false
                       degraded := false, thermal := false, admittedAt := nodeTime s, stageSince := nodeTime s, unanswered := 0
                       deadline := none }] }
                meas := s.meas.set b
                  (let z : Comparator := { history := 0, filtered := false }
                   { s.meas[b] with
                     thresholds := some { vend := vend, vrel := vrel, iend := c.iend }, ring := [], cvEnd := z, cvRel := z, ciEnd := z
                     ciMax := z, ciRev := z, ctOver := z, ctRise := z })
                bays := s.bays.set b
                  { s.bays[b] with
                    state := .admitted, ret := none, restUntil := none, backoffUntil := none, endArmed := false, reason := none
                    foundAtStart := false } }
              h 1 (.admitted (s.packs.records.length + 1) vend vrel c.iend)))))

/-- START in ADMITTED connects on CONNECT and is PERMIT without it, STATE elsewhere; REJECT quarantines every bay with a record, keeps a
quarantined one as it is, and is STATE in EMPTY and LOADED; both are RANGE on a bay that is not configured (R24, R29, R42). Out of
RELEASING a REJECT withdraws the pack at another station, and ends the claim at the own zone (R42, R77). -/
def Obligations.StartAndReject : Prop :=
  ∀ (h : Header) (bay : Byte) (s : State), requestTaken s h = true →
    (bayArg s bay = none → Refuses (exec (.start h bay) s) s h 2 .range ∧ Refuses (exec (.reject h bay) s) s h 3 .range) ∧
    (∀ b, bayArg s bay = some b →
      (s.bays[b].state = .admitted → connectPermit s b = true →
        ∃ u, Performs (exec (.start h bay) s) u h 2 .none ∧ u.bays[b].state = .connecting ∧
          u.bays[b].window = .closing (s.now + 400) ∧ u.bays[b].endArmed = false ∧ coilOn u b = true ∧
          { u with bays := s.bays } = s ∧ (∀ c, c ≠ b → u.bays[c] = s.bays[c])) ∧
      (s.bays[b].state = .admitted → connectPermit s b = false → Refuses (exec (.start h bay) s) s h 2 .permit) ∧
      (s.bays[b].state ≠ .admitted → Refuses (exec (.start h bay) s) s h 2 .state) ∧
      (s.bays[b].state = .empty ∨ s.bays[b].state = .loaded → Refuses (exec (.reject h bay) s) s h 3 .state) ∧
      (s.bays[b].state = .quarantine → Reports (exec (.reject h bay) s) s h 3 .none) ∧
      (holdsPack s b = true →
        ∃ u, Performs (exec (.reject h bay) s) u h 3 .none ∧ u.bays[b].state = .quarantine ∧ u.bays[b].reason = some .rejected ∧
          u.bays[b].rgUntil = none ∧ u.packs.counters = s.packs.counters ∧ (∀ c, c ≠ b → u.bays[c] = s.bays[c]) ∧
          (s.bays[b].state = .connecting ∨ s.bays[b].state = .discharging → u.bays[b].window = .opening (s.now + 400)) ∧
          (s.bays[b].state = .offering → u.handover[b].entry = .none) ∧
          (∀ r, s.bays[b].state = .releasing → recordOfBay s b = some r →
            recordOfBay u b = some { r with dest := none, deadline := none } ∧
            (∀ id, r.id = some id → r.dest = some s.loader.address → u.handover[b].claim = false ∧ u.bus = s.bus) ∧
            (∀ station id, r.id = some id → r.dest = some station → station ≠ s.loader.address →
              u.handover = s.handover ∧
                (s.bus.handover.length < 8 →
                  u.bus = { s.bus with
                    handover := s.bus.handover ++ [{ dest := station, body := .withdraw id }] })))))

/-- CLEAR of a bay, CLEAR of the chute and RESOLVE-LOST: what each removes, counts and answers, and when each is refused (R24, R43, R62 to
R65). -/
def Obligations.ClearsAndResolveLost : Prop :=
  ∀ (h : Header) (s : State), requestTaken s h = true →
    (∀ bay : Byte,
      (bayArg s bay = none → Refuses (exec (.clearBay h bay) s) s h 4 .range) ∧
      (∀ b, bayArg s bay = some b →
        (s.bays[b].state ≠ .quarantine ∨ s.meas[b].pp.filtered = true → Refuses (exec (.clearBay h bay) s) s h 4 .state) ∧
        (∀ r, s.bays[b].state = .quarantine → s.meas[b].pp.filtered = false → recordOfBay s b = some r →
          ∃ u, Performs (exec (.clearBay h bay) s) u h 4
              (.clearedPack r.id s.bays[b].reason r.restPassed r.degraded r.thermal) ∧
            u.packs =
              { s.packs with
                records := s.packs.records.eraseP (isAtBay b)
                counters := { s.packs.counters with cleared := s.packs.counters.cleared + 1 }
                dischargedTotal := min 281474976710655 (s.packs.dischargedTotal + r.edis.toNat) } ∧
            u.bays[b].state = .empty ∧ u.bays[b].reason = none ∧ u.meas[b] = { s.meas[b] with thresholds := none } ∧
            (∀ c, c ≠ b → u.bays[c] = s.bays[c] ∧ u.meas[c] = s.meas[c]) ∧
            { u with packs := s.packs, bays := s.bays, meas := s.meas } = s))) ∧
    ((∀ r ∈ s.packs.records, r.stage ≠ .unidentified) → Refuses (exec (.clearChute h) s) s h 4 .notFound) ∧
    (∀ ahead r behind, s.packs.records = ahead ++ r :: behind → (∀ x ∈ ahead, x.stage ≠ .unidentified) → r.stage = .unidentified →
      Performs (exec (.clearChute h) s)
        { s with packs := { s.packs with
          records := ahead ++ behind, counters := { s.packs.counters with cleared := s.packs.counters.cleared + 1 } } }
        h 4 (.clearedChute r.admittedAt)) ∧
    (∀ id : PackId,
      (recordOfId s id = none → Refuses (exec (.resolveLost h id) s) s h 5 .notFound) ∧
      (∀ r, recordOfId s id = some r →
        (r.stage ≠ .missing → Refuses (exec (.resolveLost h id) s) s h 5 .state) ∧
        (r.stage = .missing →
          Performs (exec (.resolveLost h id) s)
            { s with packs := { s.packs with
              records := s.packs.records.eraseP (hasId id)
              counters := { s.packs.counters with lost := s.packs.counters.lost + 1 } } }
            h 5 .none)))

/-- ZONE-START, ZONE-STOP, RUN and HALT in every zone state, and on a node without a zone (R90, R93, R94, R98, R104, R105). -/
def Obligations.ZoneRequests : Prop :=
  ∀ (h : Header) (s : State), requestTaken s h = true →
    (zoneCfg s = none →
      Refuses (exec (.zoneStart h) s) s h 6 .state ∧ Refuses (exec (.zoneStop h) s) s h 7 .state ∧
        Refuses (exec (.run h) s) s h 8 .state ∧ Refuses (exec (.halt h) s) s h 9 .state) ∧
    (∀ z, zoneCfg s = some z →
      (s.zone.state = .air → purgePermit s = true → zoneHeld s = false →
        Performs (exec (.zoneStart h) s)
          { s with zone := { s.zone with
            state := .purging, since := nodeCount s, fpUntil := none, settleUntil := none, topUp := false
            purgeUntil := some (s.now + z.purgeLimit * 2000) } } h 6 .none) ∧
      (s.zone.state = .air → purgePermit s = false ∨ zoneHeld s = true → Refuses (exec (.zoneStart h) s) s h 6 .permit) ∧
      (s.zone.state ≠ .air → Refuses (exec (.zoneStart h) s) s h 6 .state) ∧
      (s.zone.state = .air → Reports (exec (.zoneStop h) s) s h 7 .none) ∧
      (s.zone.state = .purging ∨ s.zone.state = .inert ∨ s.zone.state = .ready ∨ s.zone.state = .alarm →
        (s.zone.queue = [] → claimCount s = 0 →
          Performs (exec (.zoneStop h) s)
            { s with zone := { s.zone with
              state := .air, since := nodeCount s, fpUntil := none, purgeUntil := none, settleUntil := none, floodUntil := none
              topUp := false } } h 7 .none) ∧
        (s.zone.queue ≠ [] ∨ claimCount s ≠ 0 → Refuses (exec (.zoneStop h) s) s h 7 .queue)) ∧
      (s.zone.state = .running ∨ s.zone.state = .fire ∨ s.zone.state = .lockout → Refuses (exec (.zoneStop h) s) s h 7 .state) ∧
      (s.zone.state = .ready → runPermit s = true →
        Performs (exec (.run h) s) { s with zone := { s.zone with state := .running, since := nodeCount s } } h 8 .none) ∧
      (s.zone.state = .ready → runPermit s = false → Refuses (exec (.run h) s) s h 8 .permit) ∧
      (s.zone.state = .running → Reports (exec (.run h) s) s h 8 .none) ∧
      (s.zone.state ≠ .ready → s.zone.state ≠ .running → Refuses (exec (.run h) s) s h 8 .state) ∧
      (s.zone.state = .running →
        Performs (exec (.halt h) s)
          { s with zone := { s.zone with state := .ready, since := nodeCount s, fpUntil := none, settleUntil := none } } h 9 .none) ∧
      (s.zone.state = .ready → Reports (exec (.halt h) s) s h 9 .none) ∧
      (s.zone.state ≠ .ready → s.zone.state ≠ .running → Refuses (exec (.halt h) s) s h 9 .state))

/-- ACK sets the flag of every raised row of its scope and counts those it set; RESET lowers every latched raised row that is acknowledged
with its condition false, and nothing else, closes the log entries of those rows, and answers the rows still raised (R129, R130, R144; log
34 on the moment of that count, log 42 on which entry is the row's). The scope 0 is all, and 1 to 6 are FIRE, ATMOSPHERE, THERMAL,
ELECTRICAL, LINE and ACCOUNT (10.1). -/
def Obligations.AckAndReset : Prop :=
  (ackScope 0 = some none ∧ ackScope 1 = some (some .fire) ∧ ackScope 2 = some (some .atmosphere) ∧
    ackScope 3 = some (some .thermal) ∧ ackScope 4 = some (some .electrical) ∧ ackScope 5 = some (some .line) ∧
    ackScope 6 = some (some .account)) ∧
  ∀ (h : Header) (s : State), requestTaken s h = true →
    (∀ scope : Byte, 6 < scope.toNat → Refuses (exec (.ack h scope) s) s h 10 .range) ∧
    (∀ (scope : Byte) (c : Option CauseClass), ackScope scope = some c →
      let acks (r : Row) : Prop := raised s r = true ∧ (rowState s r).acked = false ∧ ∀ k, c = some k → rowClass r = k
      ∃ u n, exec (.ack h scope) s = .next (queueReply u (replyTo h 10 .done (.count n))) ∧
        (∀ r, acks r → rowState u r = { rowState s r with acked := true }) ∧
        (∀ r, ¬acks r → rowState u r = rowState s r) ∧
        (∃ l : List Row, l.Nodup ∧ l.length = n ∧ ∀ r, r ∈ l ↔ acks r) ∧
        { u with causes := { u.causes with rows := s.causes.rows } } = s) ∧
    (let lowers (r : Row) : Prop :=
       latched r = true ∧ raised s r = true ∧ (rowState s r).condition = false ∧ (rowState s r).acked = true
     ∃ u n, Performs (exec (.reset h) s) u h 11 (.count n) ∧
       (∀ r, lowers r →
         rowState u r =
           { rowState s r with raised := false, acked := false, firstOut := false, episode := 0, onset := none, logEntry := none }) ∧
       (∀ r, ¬lowers r → rowState u r = rowState s r) ∧
       (lowers .fd5 → u.causes.remoteFire = { sections := 0, originators := [] }) ∧
       (lowers .th3 → u.causes.remoteThermal = { sections := 0, originators := [] }) ∧
       (∀ (k : Nat) (e : LogEntry), s.causes.log[k]? = some e →
         (lowers e.row ∧ (rowState s e.row).logEntry = some e.number →
           u.causes.log[k]? = some { e with cleared := some (nodeTime s) }) ∧
         (¬(lowers e.row ∧ (rowState s e.row).logEntry = some e.number) → u.causes.log[k]? = some e)) ∧
       u.causes.log.length = s.causes.log.length ∧ u.causes.episode = s.causes.episode ∧ u.causes.nextEntry = s.causes.nextEntry ∧
       (¬lowers .fd5 → u.causes.remoteFire = s.causes.remoteFire) ∧ (¬lowers .th3 → u.causes.remoteThermal = s.causes.remoteThermal) ∧
       (∃ l : List Row, l.Nodup ∧ l.length = n ∧ ∀ r, r ∈ l ↔ raised u r = true) ∧ { u with causes := s.causes } = s)

/-- MAINT(on) in OPERATING enters MAINTENANCE and MAINT(off) returns with every inhibit ended; each is DONE without effect where the node
is in that mode already. STATUS reports the mode; a warm reset ends in OPERATING; neither request is taken out of service (R138). -/
def Obligations.MaintenanceMode : Prop :=
  (∀ (h : Header) (s : State), requestTaken s h = true →
    (s.loader.mode = .operating →
      exec (.maintOn h) s =
        .next (queueReply { s with loader := { s.loader with mode := .maintenance } } (replyTo h 12 .done .none)) ∧
      Reports (exec (.maintOff h) s) s h 12 .none) ∧
    (s.loader.mode = .maintenance →
      Reports (exec (.maintOn h) s) s h 12 .none ∧
      ∃ u, Performs (exec (.maintOff h) s) u h 12 .none ∧ u.loader = { s.loader with mode := .operating } ∧
        (∀ r, rowState u r = { rowState s r with inhibit := none }) ∧
        { u with loader := s.loader, causes := { u.causes with rows := s.causes.rows } } = s)) ∧
  (∀ s : State, (s.loader.mode = .operating → (buildStatus s).mode = .operating) ∧
    (s.loader.mode = .maintenance → (buildStatus s).mode = .maintenance)) ∧
  (∀ (r : Restarting) (s t : State), s.loader.mode = .warmReset → s.loader.restart = some r → r.endAt ≤ s.now →
    exec .warmResetEnd s = .next t → t.loader.mode = .operating) ∧
  (∀ (h : Header) (s : State), s.loader.mode = .starting ∨ s.loader.mode = .configFault →
    exec (.maintOn h) s = .next s ∧ exec (.maintOff h) s = .next s)

/-- INHIBIT: the checks of R139 in their order, and the inhibit with the number of rows inhibited after it (R139). -/
def Obligations.InhibitChecksInOrder : Prop :=
  ∀ (h : Header) (row : Byte) (seconds : BitVec 16) (s : State), requestTaken s h = true →
    let o := exec (.inhibit h row seconds) s
    let ranged (r : Row) : Prop := 1 ≤ seconds.toNat ∧ seconds.toNat ≤ 1800 ∧ rowConfigured s r = true
    (s.loader.mode ≠ .maintenance → Refuses o s h 13 .mode) ∧
    (s.loader.mode = .maintenance → row.toNat = 0 ∨ 66 < row.toNat → Refuses o s h 13 .range) ∧
    (∀ r : Row, s.loader.mode = .maintenance → rowPosition r = row.toNat →
      (¬ranged r → Refuses o s h 13 .range) ∧
      (ranged r → rowClass r ≠ .line → rowClass r ≠ .account → Refuses o s h 13 .class_) ∧
      (ranged r → rowClass r = .line ∨ rowClass r = .account →
        ((rowState s r).inhibit = none → 4 ≤ (inhibitedRows s).length → Refuses o s h 13 .full) ∧
        ((rowState s r).inhibit ≠ none ∨ (inhibitedRows s).length < 4 →
          ∃ u n, Performs o u h 13 (.count n) ∧
            rowState u r = { rowState s r with inhibit := some (s.now + seconds.toNat * 2000) } ∧
            (∀ x, x ≠ r → rowState u x = rowState s x) ∧
            n = (inhibitedRows s).length + (if (rowState s r).inhibit = none then 1 else 0) ∧
            { u with causes := { u.causes with rows := s.causes.rows } } = s)))

/-- The queries of packs, causes and the log answer DONE with their figures and change nothing, and are refused outside their ranges
(R24, R66, R145, R146; log 9 on remaining times). -/
def Obligations.QueriesReport : Prop :=
  ∀ (h : Header) (s : State), requestTaken s h = true →
    (∀ id : PackId,
      (recordOfId s id = none → Refuses (exec (.queryPackId h id) s) s h 14 .notFound) ∧
      (∀ r, recordOfId s id = some r →
        ∃ v : RecordView, Reports (exec (.queryPackId h id) s) s h 14 (.pack v) ∧ v.record = { r with acc := none } ∧
          1 ≤ v.position ∧ s.packs.records[v.position - 1]? = some r ∧ (v.remaining = none ↔ r.deadline = none))) ∧
    (∀ bay : Byte,
      (bayArg s bay = none → Refuses (exec (.queryPackBay h bay) s) s h 14 .range) ∧
      (∀ b, bayArg s bay = some b →
        ∃ v : BayView, Reports (exec (.queryPackBay h bay) s) s h 14 (.bay v) ∧ v.state = s.bays[b].state ∧
          (s.bays[b].state = .held → v.ret = s.bays[b].ret) ∧ (s.bays[b].state = .quarantine → v.reason = s.bays[b].reason) ∧
          v.lastDecline = s.handover[b].lastDecline ∧ v.permitLost = permitLost s b ∧
          (∀ r, r ∈ v.holds ↔ holdsBay s b r = true ∧ reacts s r = true) ∧
          (v.restRemaining = none ↔ s.bays[b].restUntil = none) ∧ (v.backoffRemaining = none ↔ s.bays[b].backoffUntil = none) ∧
          v.record.map RecordView.record = (recordOfBay s b).map fun r => { r with acc := none })) ∧
    (∀ p : Byte,
      (p.toNat = 0 ∨ 24 < p.toNat → Refuses (exec (.queryPackPosition h p) s) s h 14 .range) ∧
      (1 ≤ p.toNat → p.toNat ≤ 24 →
        ∃ l : List RecordSummary, Reports (exec (.queryPackPosition h p) s) s h 14 (.list s.packs.records.length l) ∧
          l.length = min 3 (s.packs.records.length - (p.toNat - 1)) ∧
          ∀ (k : Nat) (r : PackRecord), k < 3 → s.packs.records[p.toNat - 1 + k]? = some r →
            ∃ v, l[k]? = some v ∧ v.id = r.id ∧ v.stage = r.stage ∧ v.dest = r.dest ∧
              (received s r = true → v.bay = none ∧ v.origin = r.origin) ∧ (received s r = false → v.bay = r.bay ∧ v.origin = none))) ∧
    (∀ p : Byte,
      (p.toNat = 0 ∨ 66 < p.toNat → Refuses (exec (.queryCauses h p) s) s h 15 .range) ∧
      (1 ≤ p.toNat → p.toNat ≤ 66 →
        ∃ l : List RowView,
          Reports (exec (.queryCauses h p) s) s h 15
            (.causes s.causes.episode (leadingCause s) (raisedRows s).length (inhibitedRows s).length l) ∧
          l.length ≤ 2 ∧ (l.map fun v => rowPosition v.row).Pairwise (· < ·) ∧
          (∀ x : Row, p.toNat ≤ rowPosition x → raised s x = true ∨ (rowState s x).inhibit ≠ none →
            (∃ v ∈ l, v.row = x) ∨ (l.length = 2 ∧ ∀ v ∈ l, rowPosition v.row < rowPosition x)) ∧
          ∀ v ∈ l, p.toNat ≤ rowPosition v.row ∧ (raised s v.row = true ∨ (rowState s v.row).inhibit ≠ none) ∧
            v.condition = (rowState s v.row).condition ∧ v.raised = (rowState s v.row).raised ∧ v.acked = (rowState s v.row).acked ∧
            v.firstOut = (rowState s v.row).firstOut ∧ v.episode = (rowState s v.row).episode ∧
            v.onset = (rowState s v.row).onset ∧ v.logEntry = (rowState s v.row).logEntry ∧
            (v.inhibitRemaining = none ↔ (rowState s v.row).inhibit = none) ∧
            (v.row = .fd5 → v.remote = some s.causes.remoteFire) ∧ (v.row = .th3 → v.remote = some s.causes.remoteThermal) ∧
            (v.row ≠ .fd5 → v.row ≠ .th3 → v.remote = none))) ∧
    (∀ n : BitVec 16,
      (s.causes.log = [] → Reports (exec (.queryLog h n) s) s h 16 (.log none 0 [])) ∧
      (∀ oldest newest : LogEntry, s.causes.log.head? = some oldest → s.causes.log.getLast? = some newest →
        ∃ l : List LogEntry,
          Reports (exec (.queryLog h n) s) s h 16 (.log (some (oldest.number, newest.number)) s.causes.log.length l) ∧
          (32767 < (newest.number - n).toNat → l = []) ∧
          ((newest.number - n).toNat ≤ 32767 →
            l = (s.causes.log.drop (s.causes.log.length - 1 - (newest.number - n).toNat)).take 4)))

/-- QUERY-COUNTS reports the counters, the totals, the records of each stage and both sides of the balance at its event, and changes
nothing; the sides are equal while the balance holds (R67). -/
def Obligations.QueryCountsReports : Prop :=
  ∀ (h : Header) (s : State), requestTaken s h = true →
    let stage (k : Stage) : Nat := (s.packs.records.filter fun r => decide (r.stage = k)).length
    let c := s.packs.counters
    let left : BitVec 32 := c.admitted + c.handedIn
    let right : BitVec 32 :=
      c.handedOut + c.shredded + c.cleared + c.lost +
        BitVec.ofNat 32 (stage .atBay + stage .inTransit + stage .missing + stage .waiting + stage .feeding + stage .unidentified)
    Reports (exec (.queryCounts h) s) s h 17
      (.counts c s.packs.dischargedTotal s.packs.shreddedTotal
        #v[stage .atBay, stage .inTransit, stage .missing, stage .reserved, stage .waiting, stage .feeding, stage .unidentified]
        left right) ∧
    (CustodyBalanced s → left = right)

/-! ### Outputs, permits, rows -/

/-- Each output follows its state: the zone's by the table of R91, KC in CONNECTING and DISCHARGING alone, RG while its pulse runs. Out of
service all are off but for the PV and FV of a FIRE kept through a warm reset, in every state with the invariant OutputsSound, which every
step keeps (R25, R91, R110, R196, R200). -/
def Obligations.OutputsFollowStates : Prop :=
  (∀ s : State,
    (∀ b : BayIdx,
      (outKC s b = true ↔ inService s = true ∧ (s.bays[b].state = .connecting ∨ s.bays[b].state = .discharging)) ∧
      (outRG s b = true ↔ inService s = true ∧ s.bays[b].rgUntil ≠ none)) ∧
    (hasZone s = false → ZoneOutputsOff s) ∧
    (hasZone s = true →
      (outSR s = true ↔ s.zone.state = .running) ∧ (outFV s = true ↔ s.zone.state = .fire) ∧
      (outFP s = true ↔ s.zone.fpUntil ≠ none) ∧
      (s.zone.state = .air ∨ s.zone.state = .lockout → outPV s = false) ∧
      (s.zone.state = .purging ∨ s.zone.state = .alarm ∨ s.zone.state = .fire → outPV s = true) ∧
      (s.zone.state = .inert ∨ s.zone.state = .ready ∨ s.zone.state = .running → outPV s = s.zone.topUp))) ∧
  (∀ s : State, OutputsSound s → inService s = false →
    (∀ b : BayIdx, outKC s b = false ∧ outRG s b = false) ∧
    (s.loader.mode ≠ .warmReset → ZoneOutputsOff s) ∧
    (s.loader.mode = .warmReset → s.zone.state ≠ .fire → ZoneOutputsOff s) ∧
    (s.loader.mode = .warmReset → s.zone.state = .fire → hasZone s = true →
      outSR s = false ∧ outFP s = false ∧ outPV s = true ∧ outFV s = true)) ∧
  (∀ s t : State, OutputsSound s → step s = .next t → OutputsSound t)

/-- Each permit is its fixed terms and its site condition, a permit without site terms its fixed terms alone, and every permit is false out
of service (R149 to R155). A literal has the value of the fact it names, in its polarity; a peer literal is false in either polarity while
its entry is not FRESH (R156, R157). -/
def Obligations.PermitsFollowTheirTerms : Prop :=
  (∀ s : State,
    (∀ p : Permit, (∀ t ∈ (cfg s).siteTerms, t.permit ≠ some p) → siteCondition s p = true) ∧
    (∀ p : Permit, (∃ t ∈ (cfg s).siteTerms, t.permit = some p) →
      (siteCondition s p = true ↔
        ∃ t ∈ (cfg s).siteTerms, t.permit = some p ∧ ∀ l ∈ t.literals, literalHolds s s.timers l = true)) ∧
    (inService s = false →
      (∀ b, connectPermit s b = false ∧ releasePermit s b = false) ∧ purgePermit s = false ∧ feedPermit s = false ∧ runPermit s = false) ∧
    (inService s = true →
      (∀ b, connectPermit s b = true ↔
        bayConfigured s b = true ∧ (∀ r, ¬(holdsBay s b r = true ∧ reacts s r = true)) ∧
          (s.meas[b].v.status = .valid ∨ s.meas[b].v.status = .held) ∧ (s.meas[b].i.status = .valid ∨ s.meas[b].i.status = .held) ∧
          siteCondition s (.connect b) = true) ∧
      (∀ b, releasePermit s b = true ↔
        bayConfigured s b = true ∧ (s.bays[b].state = .safe ∨ s.bays[b].state = .offering) ∧ raised s (.el4 b) = false ∧
          ¬(raised s .fd5 = true ∧ s.causes.remoteFire.sections &&& baySection s b ≠ 0) ∧
          ¬(raised s .th3 = true ∧ s.causes.remoteThermal.sections &&& baySection s b ≠ 0) ∧
          (if bayDest s b = s.loader.address then accepting s = true ∧ 0 < freeSlots s
           else ∃ p r, watchIndex s (bayDest s b) = some p ∧ s.peers[p].state = .fresh ∧ s.peers[p].reported = some r ∧
             r.accepting = true ∧ 0 < r.freeSlots.val) ∧ siteCondition s (.release b) = true) ∧
      (purgePermit s = true ↔
        hasZone s = true ∧ s.zmeas.dc.filtered = true ∧ s.zone.state ≠ .fire ∧ s.zone.state ≠ .lockout ∧ siteCondition s .purge = true) ∧
      (feedPermit s = true ↔
        hasZone s = true ∧ s.zone.state = .running ∧ raised s .fp1 = false ∧ raised s .fp2 = false ∧ reacts s .ac3 = false ∧
          reacts s .ac7 = false ∧
          (∃ id rest, s.zone.queue = id :: rest ∧ slotStage s id = some .waiting ∧ ∀ x ∈ rest, slotStage s x ≠ some .feeding) ∧
          siteCondition s .feed = true) ∧
      (runPermit s = true ↔
        hasZone s = true ∧ (s.zone.state = .ready ∨ s.zone.state = .running) ∧ s.zmeas.dc.filtered = true ∧
          s.zmeas.coWarn.filtered = false ∧
          (∀ r, latched r = true → rowClass r = .fire ∨ rowClass r = .atmosphere → raised s r = false) ∧
          siteCondition s .run = true))) ∧
  (∀ (s : State) (timers : Vector Timer 16) (l : Literal),
    let holds (fact : Prop) : Prop := literalHolds s timers l = true ↔ (fact ↔ l.positive = true)
    (l.kind = none → literalHolds s timers l = false) ∧
    (∀ n : Fin 8, l.kind = some .general → l.index = some n.val → holds (s.zmeas.g[n].filtered = true)) ∧
    (∀ n : Fin 16, l.kind = some .dwell → l.index = some n.val → holds (timers[n].state = .done)) ∧
    (l.kind = some .zoneReady → holds (hasZone s = true ∧ (s.zone.state = .ready ∨ s.zone.state = .running))) ∧
    (l.kind = some .zoneRunning → holds (hasZone s = true ∧ s.zone.state = .running)) ∧
    (∀ b : BayIdx, l.index = some b.val →
      (l.kind = some .bayDischarging → holds (s.bays[b].state = .discharging)) ∧
      (l.kind = some .baySafe → holds (s.bays[b].state = .safe ∨ s.bays[b].state = .offering))) ∧
    (∀ n : Fin 12, peerKind l.kind = true → l.index = some n.val →
      (s.peers[n].state ≠ .fresh → literalHolds s timers l = false) ∧
      (∀ r, s.peers[n].state = .fresh → s.peers[n].reported = some r →
        (l.kind = some .peerFresh → holds True) ∧
        (l.kind = some .peerZoneReady → holds (r.zonePresent = true ∧ (r.zoneState = .ready ∨ r.zoneState = .running))) ∧
        (l.kind = some .peerZoneRunning → holds (r.zonePresent = true ∧ r.zoneState = .running)) ∧
        (l.kind = some .peerAccepting → holds (r.accepting = true)) ∧
        (l.kind = some .peerTripFree → holds ((r.fireSections ||| r.thermalSections) &&& ownSections s = 0)) ∧
        (l.kind = some .peerLockout → holds (r.lockout = true)))))

/-- The cause table. The condition of each row is what its owner forms, false where its subject is not configured (R97, R117 to R119, R122,
R125, R135, R174 and the rows of 7.1). A condition handed raises a lowered row and lowers a self-clearing one; its change to true clears the
acknowledgement of a latched row, its change to false leaves the rest of it (R126, R127). The changed conditions of an event are handed
together, lowest position first, an order that is the model's (log 18). A raising gives the row its onset, episode and first-out mark and one
log entry, and queues the TRIP of FD1 to FD4 and of TH2 (R131, R141, R143); an event on a raised row clears its acknowledgement and writes
nothing (R128). Of rows that a DISCRETE_ARRIVAL or a WARM_RESET_END raises with none raised before, the one of lowest position is first out
(R131; the arrival as one event is log 35). -/
def Obligations.RowsAreRaised : Prop :=
  (∀ (r : Row) (s : State),
    (let t := raiseRow s r
     let starts := latched r = true ∧ ∀ x, ¬(latched x = true ∧ raised s x = true)
     (rowState t r).condition = true ∧ (rowState t r).raised = true ∧ (rowState t r).acked = false ∧
       (rowState t r).inhibit = (rowState s r).inhibit ∧
       (rowState t r).onset = some (nodeTime s) ∧ (rowState t r).logEntry = some s.causes.nextEntry ∧
       ((rowState t r).firstOut = true ↔ starts) ∧
       (starts → t.causes.episode = (if s.causes.episode = 65535 then 1 else s.causes.episode + 1)) ∧
       (¬starts → t.causes.episode = s.causes.episode) ∧
       (latched r = true → (rowState t r).episode = t.causes.episode) ∧ (latched r = false → (rowState t r).episode = 0) ∧
       (∀ x, x ≠ r → rowState t x = rowState s x) ∧
       (∃ e : LogEntry, t.causes.log.getLast? = some e ∧ e.number = s.causes.nextEntry ∧ e.row = r ∧ e.onset = nodeTime s ∧
         e.episode = (rowState t r).episode ∧ e.firstOut = (rowState t r).firstOut ∧ e.cleared = none ∧
         (s.causes.log.length < 16 → t.causes.log = s.causes.log ++ [e]) ∧
         (s.causes.log.length = 16 → t.causes.log = s.causes.log.tail ++ [e])) ∧
       t.causes.nextEntry = s.causes.nextEntry + 1 ∧
       (r = .fd1 ∨ r = .fd2 ∨ r = .fd3 ∨ r = .fd4 → t.bus.tripFire = some (s.bus.tripFire.getD 0 ||| zoneSection s)) ∧
       (∀ b, r = .th2 b → t.bus.tripThermal = some (s.bus.tripThermal.getD 0 ||| baySection s b)) ∧
       (r ≠ .fd1 → r ≠ .fd2 → r ≠ .fd3 → r ≠ .fd4 → (∀ b, r ≠ .th2 b) → t.bus = s.bus)) ∧
    (raised s r = true →
      rowState (pulseRow s r) r = { rowState s r with acked := false, condition := false } ∧
        { pulseRow s r with causes := { (pulseRow s r).causes with rows := s.causes.rows } } = s) ∧
    (raised s r = false →
      rowState (pulseRow s r) r = { rowState (raiseRow s r) r with condition := false })) ∧
  (∀ (r : Row) (s : State), rowConfigured s r = false → conditionOf s r = false) ∧
  (∀ (r : Row) (s : State), rowConfigured s r = true →
    let holds (fact : Prop) : Prop := conditionOf s r = true ↔ fact
    (r = .fd1 → holds (s.fire.fd1 = true ∨ s.fire.held[0] = true)) ∧
    (r = .fd2 → holds ((∃ n : Fin 4, s.fire.det[n].persisted = true) ∨ s.fire.held[1] = true)) ∧
    (r = .fd3 → holds (s.zmeas.chFire1.filtered = true ∨ s.zmeas.chFire2.filtered = true ∨ s.fire.held[2] = true)) ∧
    (r = .fd4 → holds ((cfg s).sfire ≤ s.zmeas.spark.sum ∨ s.fire.held[3] = true)) ∧
    (∀ c : TripClass, r = remoteRow c →
      holds (∃ a ∈ (remoteOf s c).originators, ∃ p, watchIndex s a = some p ∧
        (s.peers[p].state ≠ .fresh ∨ ∃ report, s.peers[p].reported = some report ∧
          (match c with | .fire => report.fireSections | .thermal => report.thermalSections) &&& (remoteOf s c).sections ≠ 0))) ∧
    (r = .fp1 → holds (∃ n : Fin 4, s.fire.det[n].active = true)) ∧
    (r = .fp2 → holds ((cfg s).swarn ≤ s.zmeas.spark.sum)) ∧
    (r = .at1 → holds ((s.zone.state = .inert ∨ s.zone.state = .ready ∨ s.zone.state = .running) ∧ s.zmeas.coWarn.filtered = true)) ∧
    (r = .at3 → holds (s.zmeas.coDis.filtered = true)) ∧
    (r = .at4 → holds (s.zmeas.o2a.status = .invalid ∨ s.zmeas.o2b.status = .invalid)) ∧
    (r = .at5 → holds (s.zone.state ≠ .air ∧ s.zmeas.dc.filtered = false)) ∧
    (∀ b : BayIdx,
      (r = .th1 b → holds (s.meas[b].ctOver.filtered = true)) ∧ (r = .th2 b → holds (s.meas[b].ctRise.filtered = true)) ∧
      (r = .el1 b → holds (s.meas[b].ciMax.filtered = true)) ∧ (r = .el2 b → holds (s.meas[b].ciRev.filtered = true)) ∧
      (r = .el3 b → holds (s.meas[b].v.status = .invalid ∨ s.meas[b].i.status = .invalid ∨ s.meas[b].v.clamp = true ∨
        s.meas[b].i.clamp = true)) ∧
      (r = .el4 b → holds (s.bays[b].mismatch = true)) ∧ (r = .ac1 b → holds (s.bays[b].removed = true)) ∧
      (r = .ac2 b → holds (s.bays[b].foundAtStart = true)) ∧
      (r = .ac6 b → holds (∃ x, recordOfBay s b = some x ∧ x.unanswered = 3))) ∧
    (∀ p : Fin 12, r = .ln1 p → holds (s.peers[p].state ≠ .fresh ∧ (s.peers[p].state = .absent → s.startUntil = none))) ∧
    (r = .ln2 → holds (s.bus.blocked = true)) ∧
    (r = .ac5 → holds (∃ x ∈ s.packs.records, x.stage = .missing)) ∧
    (r = .at2 ∨ r = .ac3 ∨ r = .ac4 ∨ r = .ac7 → holds False)) ∧
  (∀ (r : Row) (s : State),
    (raised s r = false → handCondition s r true = raiseRow s r) ∧
    (raised s r = true → latched r = true →
      rowState (handCondition s r true) r = { rowState s r with condition := true, acked := false }) ∧
    (raised s r = true → latched r = false →
      rowState (handCondition s r true) r = { rowState s r with condition := true }) ∧
    (latched r = true → rowState (handCondition s r false) r = { rowState s r with condition := false }) ∧
    (latched r = false →
      handCondition s r false = lowerRow s r ∧
      rowState (lowerRow s r) r =
        { rowState s r with
          condition := false, raised := false, acked := false, firstOut := false, episode := 0, onset := none, logEntry := none }) ∧
    ∀ (c : Bool) (x : Row), x ≠ r → rowState (handCondition s r c) x = rowState s x) ∧
  (∀ s : State,
    (handConditions s = none ↔ ∀ r, conditionOf s r = (rowState s r).condition) ∧
    (∀ t, handConditions s = some t → ∀ r,
      (rowState t r).condition = conditionOf s r ∧
      (conditionOf s r = (rowState s r).condition → rowState t r = rowState s r) ∧
      (conditionOf s r = true → (rowState s r).condition = false → raised t r = true) ∧
      (conditionOf s r = false → (rowState s r).condition = true → raised t r = (latched r && raised s r)))) ∧
  (∀ (c : Instr) (s t : State) (q : Row), (∃ levels, c = .discreteArrival levels) ∨ c = .warmResetEnd → exec c s = .next t →
    (∀ r, ¬(latched r = true ∧ raised s r = true)) → latched q = true → raised t q = true →
    (∀ r, latched r = true → raised t r = true → rowPosition q ≤ rowPosition r) →
    ∀ r, ((rowState t r).firstOut = true ↔ r = q) ∧
      ∀ e ∈ t.causes.log, (rowState t e.row).logEntry = some e.number → (e.firstOut = true ↔ e.row = q))

/-- A lowering fills the cleared time of the row's own entry where the log still holds it, and touches no other entry (R144). That an entry
of another row which carries the number again, once the numbers have wrapped, is no entry of the row is the model's choice (log 42). -/
def Obligations.LoweringClosesItsEntry : Prop :=
  (∀ (r : Row) (s : State),
    (lowerRow s r).causes.log.length = s.causes.log.length ∧
    ∀ (k : Nat) (e : LogEntry), s.causes.log[k]? = some e →
      (e.row = r ∧ (rowState s r).logEntry = some e.number → (lowerRow s r).causes.log[k]? = some { e with cleared := some (nodeTime s) }) ∧
      (¬(e.row = r ∧ (rowState s r).logEntry = some e.number) → (lowerRow s r).causes.log[k]? = some e)) ∧
  (∀ (r : Row) (s : State), ∃ e, (raiseRow s r).causes.log.getLast? = some e ∧ e.row = r ∧ e.cleared = none ∧
    (rowState (raiseRow s r) r).logEntry = some e.number)

/-! ### Rules of the whole machine -/

/-- Every command answers a next state: no command stops. It leaves the queue of waiting commands as it is, and but for a COLD_RESET it
takes no time; time passes in steps on an empty queue, half a millisecond each, with the second boundaries counted. The table has no row for
the passing of time, so all of this is the model's choice (log 1, log 24, log 26). -/
def Obligations.EveryCommandAnswers : Prop :=
  (∀ (c : Instr) (s : State), ∃ t, exec c s = .next t ∧ t.pending = s.pending ∧ ((∀ pins, c ≠ .coldReset pins) → t.now = s.now)) ∧
  (∀ s : State, s.pending = [] →
    step s = .next
      { s with
        now := s.now + 1
        secondsDue :=
          s.secondsDue +
            if inService s = true ∧ (s.now + 1) % 20 = 0 ∧ (BitVec.ofNat 32 ((s.now + 1) / 20)).toNat % 100 = 0 then 1 else 0 })

/-- The mode changes at the events of R203 alone, and what the loader holds of the image at cold reset and the end of the load alone (R195,
R197, R203). -/
def Obligations.ModeAndImageChange : Prop :=
  (∀ (c : Instr) (s t : State), exec c s = .next t → t.loader.mode ≠ s.loader.mode →
    (∃ pins, c = .coldReset pins ∧ t.loader.mode = .starting) ∨
    (∃ m f, c = .loadEnd m f ∧ s.loader.mode = .starting ∧ (t.loader.mode = .operating ∨ t.loader.mode = .configFault)) ∨
    (∃ h, c = .maintOn h ∧ s.loader.mode = .operating ∧ t.loader.mode = .maintenance) ∨
    (∃ h, c = .maintOff h ∧ s.loader.mode = .maintenance ∧ t.loader.mode = .operating) ∨
    (∃ h, c = .restart h ∧ inService s = true ∧ t.loader.mode = .warmReset) ∨
    (c = .warmResetEnd ∧ s.loader.mode = .warmReset ∧ t.loader.mode = .operating)) ∧
  (∀ (c : Instr) (s t : State), exec c s = .next t → (∀ pins, c ≠ .coldReset pins) →
    t.loader.address = s.loader.address ∧
    ((∀ m f, c ≠ .loadEnd m f) →
      t.loader.image = s.loader.image ∧ t.loader.lineId = s.loader.lineId ∧ t.loader.period = s.loader.period ∧
        t.loader.faultCode = s.loader.faultCode))

/-- Each custody counter moves at its own command alone, by one where one command can move it once (R61 with R53, R57, R59, R60, R63 to
R65). A COLD_RESET, which clears them all, is left out. -/
def Obligations.CountersMoveAtTheirCommands : Prop :=
  ∀ (c : Instr) (s t : State), exec c s = .next t → (∀ pins, c ≠ .coldReset pins) →
    let a := s.packs.counters
    let z := t.packs.counters
    (z.admitted = a.admitted ∨ z.admitted = a.admitted + 1 ∧ ∃ h bay id cls cells e, c = .admitPack h bay id cls cells e) ∧
    (z.handedIn = a.handedIn ∨ ∃ levels, c = .discreteArrival levels) ∧
    (z.handedOut = a.handedOut ∨ z.handedOut = a.handedOut + 1 ∧ ∃ h id, c = .landed h id) ∧
    (z.shredded = a.shredded ∨ ∃ levels, c = .discreteArrival levels) ∧
    (z.cleared = a.cleared ∨ z.cleared = a.cleared + 1 ∧ ((∃ h bay, c = .clearBay h bay) ∨ ∃ h, c = .clearChute h)) ∧
    (z.lost = a.lost ∨ z.lost = a.lost + 1 ∧ ∃ h id, c = .resolveLost h id)

/-- The frame sequence advances by one when a frame leaves and stands at every other command but a COLD_RESET, a collision and a warm reset
among them (R181, R187, R194). -/
def Obligations.SequenceAdvancesAtLeaving : Prop :=
  ∀ (c : Instr) (s t : State), exec c s = .next t →
    (c = .frameLeaves → s.bus.attempt ≠ none → t.bus.sequence = s.bus.sequence + 1) ∧
    (c = .frameLeaves → s.bus.attempt = none → t = s) ∧
    (c ≠ .frameLeaves → (∀ pins, c ≠ .coldReset pins) → t.bus.sequence = s.bus.sequence) ∧
    (∀ pins, c = .coldReset pins → t.bus.sequence = 0)

/-- Out of OPERATING and MAINTENANCE every arrival, received frame and request is taken and discarded (R22, R183, R192, R193). -/
def Obligations.NothingIsTakenOutOfService : Prop :=
  ∀ (c : Instr) (s : State), inService s = false → isArrival c = true ∨ headerOf c ≠ none → exec c s = .next s

/-- Request intake: NOT_TERMINAL for a sender outside the terminal set, nothing on a full REPLY FIFO, one REPLY to the sender with its
sequence for every other request but a RESTART, and RANGE for a malformed one; a request not addressed to this node alone does nothing
(R184, R190, R193). A frame is heard in service with the own line ID, a sender that is neither 0, 63 nor the own address, and a destination
that is 63 for a frame to all and the own address for a frame to this node (R183, R184). -/
def Obligations.RequestsAreTakenIn : Prop :=
  (∀ (h : Header) (s : State),
    let heard := (s.loader.mode = .operating ∨ s.loader.mode = .maintenance) ∧ h.line = s.loader.lineId ∧
      h.sender ≠ 0 ∧ h.sender ≠ 63 ∧ h.sender ≠ s.loader.address
    (heardBroadcast s h = true ↔ heard ∧ h.dest = 63) ∧
    (heardOwn s h = true ↔ heard ∧ h.dest = s.loader.address ∧ h.dest ≠ 63) ∧
    (requestTaken s h = true ↔ heardOwn s h = true ∧ h.sender.toNat ∈ (cfg s).terminals ∧ s.bus.replies.length < 4)) ∧
  (∀ (c : Instr) (h : Header) (kind : Byte) (s : State), headerOf c = some h → requestKind c = some kind →
    (heardOwn s h = false → exec c s = .next s) ∧
    (heardOwn s h = true →
      (isTerminal s h.sender = false → s.bus.replies.length < 4 →
        exec c s = .next (queueReply s { dest := h.sender, kind := kind, seq := h.seq, result := .notTerminal, payload := .none })) ∧
      (4 ≤ s.bus.replies.length → exec c s = .next s) ∧
      (isTerminal s h.sender = true → s.bus.replies.length < 4 → c ≠ .restart h →
        ∃ t result payload, exec c s = .next t ∧
          t.bus.replies = s.bus.replies ++ [{ dest := h.sender, kind := kind, seq := h.seq, result := result, payload := payload }]))) ∧
  (∀ (h : Header) (kind : Byte) (s : State), requestTaken s h = true → Refuses (exec (.requestMalformed h kind) s) s h kind .range)

/-- A node out of service sends a STATUS in CONFIG_FAULT and nothing else: the other sources stay empty at every step, and no attempt begins
in STARTING or in a warm reset (R186). -/
def Obligations.SilentNodeSendsStatusAlone : Prop :=
  (SilentSourcesEmpty State.reset ∧ ∀ s t : State, SilentSourcesEmpty s → step s = .next t → SilentSourcesEmpty t) ∧
  (∀ s : State, s.loader.mode = .configFault →
    (s.bus.attempt = none → s.bus.backoffUntil = none → s.bus.statusPending = true →
      exec .transmitAttempt s =
        .next { s with bus := { s.bus with
          attempt := some { frame := .status (faultStatus s), seq := s.bus.sequence, held := true } } }) ∧
    (s.bus.statusPending = false → exec .transmitAttempt s = .next s)) ∧
  (∀ s : State, s.loader.mode = .starting ∨ s.loader.mode = .warmReset → exec .transmitAttempt s = .next s)

/-- A latched row once raised stays raised through every command but a RESET and a COLD_RESET, a warm reset among them (R127, R148). A
self-clearing row is raised exactly while the condition handed to it is true: the reset state has that, and every step keeps it (R126). -/
def Obligations.LatchedRowsStayRaised : Prop :=
  (∀ (c : Instr) (s t : State) (r : Row), exec c s = .next t → latched r = true → raised s r = true →
    (∀ h, c ≠ .reset h) → (∀ pins, c ≠ .coldReset pins) → raised t r = true) ∧
  SelfClearingSound State.reset ∧ ∀ s t : State, SelfClearingSound s → step s = .next t → SelfClearingSound t

/-! ### Invariants -/

/-- The custody balance holds at every node: every step keeps it, a cold reset sets both sides to 0, and QUERY-COUNTS reports both (R61). -/
def Obligations.CustodyBalanceIsKept : Prop :=
  (∀ s t : State, CustodyBalanced s → step s = .next t → CustodyBalanced t) ∧
  (∀ (pins : BitVec 6) (s t : State), exec (.coldReset pins) s = .next t → custodyLeft t = 0 ∧ custodyRight t = 0) ∧
  (∀ (h : Header) (s : State), requestTaken s h = true →
    ∃ c discharged shredded stages, Reports (exec (.queryCounts h) s) s h 17
      (.counts c discharged shredded stages (custodyLeft s) (custodyRight s)))

/-- A locked-out zone stays locked out with every zone output off through every command but a COLD_RESET, and answers its four requests
STATE (R104). A zone that was in FIRE at a warm reset stays in FIRE through every command but a COLD_RESET and the expiry of the
re-formation timer, whose command is early while the interval runs (R122; log 2 on the early command, log 38 on the mark). -/
def Obligations.LockoutAndKeptFireStand : Prop :=
  (∀ (c : Instr) (s t : State), FireKept s → (∀ pins, c ≠ .coldReset pins) →
    (c = .reformationTimerExpiry → ∀ u, s.fire.reformUntil = some u → s.now < u) → exec c s = .next t → FireKept t) ∧
  (∀ s t : State, FireKept s → s.pending = [] → step s = .next t → FireKept t) ∧
  (∀ (c : Instr) (s t : State), LockedOut s → (∀ pins, c ≠ .coldReset pins) → exec c s = .next t → LockedOut t ∧ ZoneOutputsOff t) ∧
  (∀ s t : State, LockedOut s → s.pending = [] → step s = .next t → LockedOut t ∧ ZoneOutputsOff t) ∧
  (∀ (h : Header) (s : State), LockedOut s → requestTaken s h = true →
    Refuses (exec (.zoneStart h) s) s h 6 .state ∧ Refuses (exec (.zoneStop h) s) s h 7 .state ∧
      Refuses (exec (.run h) s) s h 8 .state ∧ Refuses (exec (.halt h) s) s h 9 .state)

/-- No step leaves the zone RUNNING with a latched row of the FIRE or ATMOSPHERE class raised (R98). -/
def Obligations.RunningZoneStaysClear : Prop :=
  ∀ s t : State, RunsClear s → step s = .next t → RunsClear t

/-- Every step keeps slots and internal claims together at four at most, and the claim of a bay that releases to the own zone (R87, R106).
Every step keeps the infeed queue in its order: no two slots for one record, WAITING and FEEDING slots ahead of RESERVED and IN_TRANSIT
ones, FEEDING at the head alone (R106). -/
def Obligations.PlacesAreKept : Prop :=
  (∀ s t : State, PlacesSound s → step s = .next t → PlacesSound t) ∧
  (∀ s t : State, TableSound s → QueueSound s → step s = .next t → QueueSound t)

/-- Every step keeps the pack table within 24 records with no ID twice, the FIFOs, the log and the originators within their sizes, and the
log's entry numbers without a gap (R50, R51, R133, R143, R190). -/
def Obligations.TablesKeepTheirSizes : Prop :=
  ∀ s t : State, TableSound s → SizesSound s → LogSound s → step s = .next t → TableSound t ∧ SizesSound t ∧ LogSound t

/-- Every step keeps each dwell timer within its preset and DONE exactly at it, and an undefined timer IDLE at 0 (R159, R161). -/
def Obligations.DwellTimersStaySound : Prop :=
  ∀ s t : State, TimersSound s → step s = .next t → TimersSound t

/-- The reset state has every invariant that the steps keep. -/
def Obligations.ResetHasTheInvariants : Prop :=
  let s := State.reset
  CustodyBalanced s ∧ RunsClear s ∧ PlacesSound s ∧ QueueSound s ∧ TableSound s ∧ SizesSound s ∧ LogSound s ∧ TimersSound s ∧
    SilentSourcesEmpty s ∧ OutputsSound s ∧ SelfClearingSound s

/-- A frame's bytes decode to the command they were made from, for every well-formed frame and request (10.1, R182, R183). An ADMIT has 21
bytes of payload, as its items add up to, where the spec's table says 20: that is the model's reading (log 32). -/
def Obligations.DecodeInvertsEncode : Prop :=
  ∀ (c : Instr) (bytes : List Byte), c.wellFormed = true → encodeFrame c = some bytes → decodeFrame bytes = c ∧ bytes.length ≤ 56
end

