-- ==== Sys2Proof/Laws/State.lean ====
section
/-! SUPPORT. What each named update leaves and writes, one lemma per field, and reading back one element of a written block. -/

namespace Sys2Proof.Machine

variable (s : State)

/-! ### updMeas -/

@[simp] theorem updMeas_now (b : BayIdx) (f : BayMeasure → BayMeasure) : (updMeas s b f).now = s.now := rfl
@[simp] theorem updMeas_secondsDue (b : BayIdx) (f : BayMeasure → BayMeasure) : (updMeas s b f).secondsDue = s.secondsDue := rfl
@[simp] theorem updMeas_loader (b : BayIdx) (f : BayMeasure → BayMeasure) : (updMeas s b f).loader = s.loader := rfl
@[simp] theorem updMeas_meas (b : BayIdx) (f : BayMeasure → BayMeasure) : (updMeas s b f).meas = s.meas.set b.val (f s.meas[b]) b.isLt := rfl
@[simp] theorem updMeas_zmeas (b : BayIdx) (f : BayMeasure → BayMeasure) : (updMeas s b f).zmeas = s.zmeas := rfl
@[simp] theorem updMeas_bays (b : BayIdx) (f : BayMeasure → BayMeasure) : (updMeas s b f).bays = s.bays := rfl
@[simp] theorem updMeas_packs (b : BayIdx) (f : BayMeasure → BayMeasure) : (updMeas s b f).packs = s.packs := rfl
@[simp] theorem updMeas_handover (b : BayIdx) (f : BayMeasure → BayMeasure) : (updMeas s b f).handover = s.handover := rfl
@[simp] theorem updMeas_zone (b : BayIdx) (f : BayMeasure → BayMeasure) : (updMeas s b f).zone = s.zone := rfl
@[simp] theorem updMeas_fire (b : BayIdx) (f : BayMeasure → BayMeasure) : (updMeas s b f).fire = s.fire := rfl
@[simp] theorem updMeas_causes (b : BayIdx) (f : BayMeasure → BayMeasure) : (updMeas s b f).causes = s.causes := rfl
@[simp] theorem updMeas_timers (b : BayIdx) (f : BayMeasure → BayMeasure) : (updMeas s b f).timers = s.timers := rfl
@[simp] theorem updMeas_peers (b : BayIdx) (f : BayMeasure → BayMeasure) : (updMeas s b f).peers = s.peers := rfl
@[simp] theorem updMeas_startUntil (b : BayIdx) (f : BayMeasure → BayMeasure) : (updMeas s b f).startUntil = s.startUntil := rfl
@[simp] theorem updMeas_bus (b : BayIdx) (f : BayMeasure → BayMeasure) : (updMeas s b f).bus = s.bus := rfl
@[simp] theorem updMeas_freeIndex (b : BayIdx) (f : BayMeasure → BayMeasure) : (updMeas s b f).freeIndex = s.freeIndex := rfl
@[simp] theorem updMeas_pending (b : BayIdx) (f : BayMeasure → BayMeasure) : (updMeas s b f).pending = s.pending := rfl

/-! ### updBay -/

@[simp] theorem updBay_now (b : BayIdx) (f : Bay → Bay) : (updBay s b f).now = s.now := rfl
@[simp] theorem updBay_secondsDue (b : BayIdx) (f : Bay → Bay) : (updBay s b f).secondsDue = s.secondsDue := rfl
@[simp] theorem updBay_loader (b : BayIdx) (f : Bay → Bay) : (updBay s b f).loader = s.loader := rfl
@[simp] theorem updBay_meas (b : BayIdx) (f : Bay → Bay) : (updBay s b f).meas = s.meas := rfl
@[simp] theorem updBay_zmeas (b : BayIdx) (f : Bay → Bay) : (updBay s b f).zmeas = s.zmeas := rfl
@[simp] theorem updBay_bays (b : BayIdx) (f : Bay → Bay) : (updBay s b f).bays = s.bays.set b.val (f s.bays[b]) b.isLt := rfl
@[simp] theorem updBay_packs (b : BayIdx) (f : Bay → Bay) : (updBay s b f).packs = s.packs := rfl
@[simp] theorem updBay_handover (b : BayIdx) (f : Bay → Bay) : (updBay s b f).handover = s.handover := rfl
@[simp] theorem updBay_zone (b : BayIdx) (f : Bay → Bay) : (updBay s b f).zone = s.zone := rfl
@[simp] theorem updBay_fire (b : BayIdx) (f : Bay → Bay) : (updBay s b f).fire = s.fire := rfl
@[simp] theorem updBay_causes (b : BayIdx) (f : Bay → Bay) : (updBay s b f).causes = s.causes := rfl
@[simp] theorem updBay_timers (b : BayIdx) (f : Bay → Bay) : (updBay s b f).timers = s.timers := rfl
@[simp] theorem updBay_peers (b : BayIdx) (f : Bay → Bay) : (updBay s b f).peers = s.peers := rfl
@[simp] theorem updBay_startUntil (b : BayIdx) (f : Bay → Bay) : (updBay s b f).startUntil = s.startUntil := rfl
@[simp] theorem updBay_bus (b : BayIdx) (f : Bay → Bay) : (updBay s b f).bus = s.bus := rfl
@[simp] theorem updBay_freeIndex (b : BayIdx) (f : Bay → Bay) : (updBay s b f).freeIndex = s.freeIndex := rfl
@[simp] theorem updBay_pending (b : BayIdx) (f : Bay → Bay) : (updBay s b f).pending = s.pending := rfl

/-! ### updHandover -/

@[simp] theorem updHandover_now (b : BayIdx) (f : Handover → Handover) : (updHandover s b f).now = s.now := rfl
@[simp] theorem updHandover_secondsDue (b : BayIdx) (f : Handover → Handover) : (updHandover s b f).secondsDue = s.secondsDue := rfl
@[simp] theorem updHandover_loader (b : BayIdx) (f : Handover → Handover) : (updHandover s b f).loader = s.loader := rfl
@[simp] theorem updHandover_meas (b : BayIdx) (f : Handover → Handover) : (updHandover s b f).meas = s.meas := rfl
@[simp] theorem updHandover_zmeas (b : BayIdx) (f : Handover → Handover) : (updHandover s b f).zmeas = s.zmeas := rfl
@[simp] theorem updHandover_bays (b : BayIdx) (f : Handover → Handover) : (updHandover s b f).bays = s.bays := rfl
@[simp] theorem updHandover_packs (b : BayIdx) (f : Handover → Handover) : (updHandover s b f).packs = s.packs := rfl
@[simp] theorem updHandover_handover (b : BayIdx) (f : Handover → Handover) : (updHandover s b f).handover = s.handover.set b.val (f s.handover[b]) b.isLt := rfl
@[simp] theorem updHandover_zone (b : BayIdx) (f : Handover → Handover) : (updHandover s b f).zone = s.zone := rfl
@[simp] theorem updHandover_fire (b : BayIdx) (f : Handover → Handover) : (updHandover s b f).fire = s.fire := rfl
@[simp] theorem updHandover_causes (b : BayIdx) (f : Handover → Handover) : (updHandover s b f).causes = s.causes := rfl
@[simp] theorem updHandover_timers (b : BayIdx) (f : Handover → Handover) : (updHandover s b f).timers = s.timers := rfl
@[simp] theorem updHandover_peers (b : BayIdx) (f : Handover → Handover) : (updHandover s b f).peers = s.peers := rfl
@[simp] theorem updHandover_startUntil (b : BayIdx) (f : Handover → Handover) : (updHandover s b f).startUntil = s.startUntil := rfl
@[simp] theorem updHandover_bus (b : BayIdx) (f : Handover → Handover) : (updHandover s b f).bus = s.bus := rfl
@[simp] theorem updHandover_freeIndex (b : BayIdx) (f : Handover → Handover) : (updHandover s b f).freeIndex = s.freeIndex := rfl
@[simp] theorem updHandover_pending (b : BayIdx) (f : Handover → Handover) : (updHandover s b f).pending = s.pending := rfl

/-! ### updZMeas -/

@[simp] theorem updZMeas_now (f : ZoneMeasure → ZoneMeasure) : (updZMeas s f).now = s.now := rfl
@[simp] theorem updZMeas_secondsDue (f : ZoneMeasure → ZoneMeasure) : (updZMeas s f).secondsDue = s.secondsDue := rfl
@[simp] theorem updZMeas_loader (f : ZoneMeasure → ZoneMeasure) : (updZMeas s f).loader = s.loader := rfl
@[simp] theorem updZMeas_meas (f : ZoneMeasure → ZoneMeasure) : (updZMeas s f).meas = s.meas := rfl
@[simp] theorem updZMeas_zmeas (f : ZoneMeasure → ZoneMeasure) : (updZMeas s f).zmeas = f s.zmeas := rfl
@[simp] theorem updZMeas_bays (f : ZoneMeasure → ZoneMeasure) : (updZMeas s f).bays = s.bays := rfl
@[simp] theorem updZMeas_packs (f : ZoneMeasure → ZoneMeasure) : (updZMeas s f).packs = s.packs := rfl
@[simp] theorem updZMeas_handover (f : ZoneMeasure → ZoneMeasure) : (updZMeas s f).handover = s.handover := rfl
@[simp] theorem updZMeas_zone (f : ZoneMeasure → ZoneMeasure) : (updZMeas s f).zone = s.zone := rfl
@[simp] theorem updZMeas_fire (f : ZoneMeasure → ZoneMeasure) : (updZMeas s f).fire = s.fire := rfl
@[simp] theorem updZMeas_causes (f : ZoneMeasure → ZoneMeasure) : (updZMeas s f).causes = s.causes := rfl
@[simp] theorem updZMeas_timers (f : ZoneMeasure → ZoneMeasure) : (updZMeas s f).timers = s.timers := rfl
@[simp] theorem updZMeas_peers (f : ZoneMeasure → ZoneMeasure) : (updZMeas s f).peers = s.peers := rfl
@[simp] theorem updZMeas_startUntil (f : ZoneMeasure → ZoneMeasure) : (updZMeas s f).startUntil = s.startUntil := rfl
@[simp] theorem updZMeas_bus (f : ZoneMeasure → ZoneMeasure) : (updZMeas s f).bus = s.bus := rfl
@[simp] theorem updZMeas_freeIndex (f : ZoneMeasure → ZoneMeasure) : (updZMeas s f).freeIndex = s.freeIndex := rfl
@[simp] theorem updZMeas_pending (f : ZoneMeasure → ZoneMeasure) : (updZMeas s f).pending = s.pending := rfl

/-! ### updZone -/

@[simp] theorem updZone_now (f : Zone → Zone) : (updZone s f).now = s.now := rfl
@[simp] theorem updZone_secondsDue (f : Zone → Zone) : (updZone s f).secondsDue = s.secondsDue := rfl
@[simp] theorem updZone_loader (f : Zone → Zone) : (updZone s f).loader = s.loader := rfl
@[simp] theorem updZone_meas (f : Zone → Zone) : (updZone s f).meas = s.meas := rfl
@[simp] theorem updZone_zmeas (f : Zone → Zone) : (updZone s f).zmeas = s.zmeas := rfl
@[simp] theorem updZone_bays (f : Zone → Zone) : (updZone s f).bays = s.bays := rfl
@[simp] theorem updZone_packs (f : Zone → Zone) : (updZone s f).packs = s.packs := rfl
@[simp] theorem updZone_handover (f : Zone → Zone) : (updZone s f).handover = s.handover := rfl
@[simp] theorem updZone_zone (f : Zone → Zone) : (updZone s f).zone = f s.zone := rfl
@[simp] theorem updZone_fire (f : Zone → Zone) : (updZone s f).fire = s.fire := rfl
@[simp] theorem updZone_causes (f : Zone → Zone) : (updZone s f).causes = s.causes := rfl
@[simp] theorem updZone_timers (f : Zone → Zone) : (updZone s f).timers = s.timers := rfl
@[simp] theorem updZone_peers (f : Zone → Zone) : (updZone s f).peers = s.peers := rfl
@[simp] theorem updZone_startUntil (f : Zone → Zone) : (updZone s f).startUntil = s.startUntil := rfl
@[simp] theorem updZone_bus (f : Zone → Zone) : (updZone s f).bus = s.bus := rfl
@[simp] theorem updZone_freeIndex (f : Zone → Zone) : (updZone s f).freeIndex = s.freeIndex := rfl
@[simp] theorem updZone_pending (f : Zone → Zone) : (updZone s f).pending = s.pending := rfl

/-! ### updFire -/

@[simp] theorem updFire_now (f : Fire → Fire) : (updFire s f).now = s.now := rfl
@[simp] theorem updFire_secondsDue (f : Fire → Fire) : (updFire s f).secondsDue = s.secondsDue := rfl
@[simp] theorem updFire_loader (f : Fire → Fire) : (updFire s f).loader = s.loader := rfl
@[simp] theorem updFire_meas (f : Fire → Fire) : (updFire s f).meas = s.meas := rfl
@[simp] theorem updFire_zmeas (f : Fire → Fire) : (updFire s f).zmeas = s.zmeas := rfl
@[simp] theorem updFire_bays (f : Fire → Fire) : (updFire s f).bays = s.bays := rfl
@[simp] theorem updFire_packs (f : Fire → Fire) : (updFire s f).packs = s.packs := rfl
@[simp] theorem updFire_handover (f : Fire → Fire) : (updFire s f).handover = s.handover := rfl
@[simp] theorem updFire_zone (f : Fire → Fire) : (updFire s f).zone = s.zone := rfl
@[simp] theorem updFire_fire (f : Fire → Fire) : (updFire s f).fire = f s.fire := rfl
@[simp] theorem updFire_causes (f : Fire → Fire) : (updFire s f).causes = s.causes := rfl
@[simp] theorem updFire_timers (f : Fire → Fire) : (updFire s f).timers = s.timers := rfl
@[simp] theorem updFire_peers (f : Fire → Fire) : (updFire s f).peers = s.peers := rfl
@[simp] theorem updFire_startUntil (f : Fire → Fire) : (updFire s f).startUntil = s.startUntil := rfl
@[simp] theorem updFire_bus (f : Fire → Fire) : (updFire s f).bus = s.bus := rfl
@[simp] theorem updFire_freeIndex (f : Fire → Fire) : (updFire s f).freeIndex = s.freeIndex := rfl
@[simp] theorem updFire_pending (f : Fire → Fire) : (updFire s f).pending = s.pending := rfl

/-! ### updCauses -/

@[simp] theorem updCauses_now (f : Causes → Causes) : (updCauses s f).now = s.now := rfl
@[simp] theorem updCauses_secondsDue (f : Causes → Causes) : (updCauses s f).secondsDue = s.secondsDue := rfl
@[simp] theorem updCauses_loader (f : Causes → Causes) : (updCauses s f).loader = s.loader := rfl
@[simp] theorem updCauses_meas (f : Causes → Causes) : (updCauses s f).meas = s.meas := rfl
@[simp] theorem updCauses_zmeas (f : Causes → Causes) : (updCauses s f).zmeas = s.zmeas := rfl
@[simp] theorem updCauses_bays (f : Causes → Causes) : (updCauses s f).bays = s.bays := rfl
@[simp] theorem updCauses_packs (f : Causes → Causes) : (updCauses s f).packs = s.packs := rfl
@[simp] theorem updCauses_handover (f : Causes → Causes) : (updCauses s f).handover = s.handover := rfl
@[simp] theorem updCauses_zone (f : Causes → Causes) : (updCauses s f).zone = s.zone := rfl
@[simp] theorem updCauses_fire (f : Causes → Causes) : (updCauses s f).fire = s.fire := rfl
@[simp] theorem updCauses_causes (f : Causes → Causes) : (updCauses s f).causes = f s.causes := rfl
@[simp] theorem updCauses_timers (f : Causes → Causes) : (updCauses s f).timers = s.timers := rfl
@[simp] theorem updCauses_peers (f : Causes → Causes) : (updCauses s f).peers = s.peers := rfl
@[simp] theorem updCauses_startUntil (f : Causes → Causes) : (updCauses s f).startUntil = s.startUntil := rfl
@[simp] theorem updCauses_bus (f : Causes → Causes) : (updCauses s f).bus = s.bus := rfl
@[simp] theorem updCauses_freeIndex (f : Causes → Causes) : (updCauses s f).freeIndex = s.freeIndex := rfl
@[simp] theorem updCauses_pending (f : Causes → Causes) : (updCauses s f).pending = s.pending := rfl

/-! ### updBus -/

@[simp] theorem updBus_now (f : Bus → Bus) : (updBus s f).now = s.now := rfl
@[simp] theorem updBus_secondsDue (f : Bus → Bus) : (updBus s f).secondsDue = s.secondsDue := rfl
@[simp] theorem updBus_loader (f : Bus → Bus) : (updBus s f).loader = s.loader := rfl
@[simp] theorem updBus_meas (f : Bus → Bus) : (updBus s f).meas = s.meas := rfl
@[simp] theorem updBus_zmeas (f : Bus → Bus) : (updBus s f).zmeas = s.zmeas := rfl
@[simp] theorem updBus_bays (f : Bus → Bus) : (updBus s f).bays = s.bays := rfl
@[simp] theorem updBus_packs (f : Bus → Bus) : (updBus s f).packs = s.packs := rfl
@[simp] theorem updBus_handover (f : Bus → Bus) : (updBus s f).handover = s.handover := rfl
@[simp] theorem updBus_zone (f : Bus → Bus) : (updBus s f).zone = s.zone := rfl
@[simp] theorem updBus_fire (f : Bus → Bus) : (updBus s f).fire = s.fire := rfl
@[simp] theorem updBus_causes (f : Bus → Bus) : (updBus s f).causes = s.causes := rfl
@[simp] theorem updBus_timers (f : Bus → Bus) : (updBus s f).timers = s.timers := rfl
@[simp] theorem updBus_peers (f : Bus → Bus) : (updBus s f).peers = s.peers := rfl
@[simp] theorem updBus_startUntil (f : Bus → Bus) : (updBus s f).startUntil = s.startUntil := rfl
@[simp] theorem updBus_bus (f : Bus → Bus) : (updBus s f).bus = f s.bus := rfl
@[simp] theorem updBus_freeIndex (f : Bus → Bus) : (updBus s f).freeIndex = s.freeIndex := rfl
@[simp] theorem updBus_pending (f : Bus → Bus) : (updBus s f).pending = s.pending := rfl

/-! ### updPeer -/

@[simp] theorem updPeer_now (p : Fin 12) (f : Peer → Peer) : (updPeer s p f).now = s.now := rfl
@[simp] theorem updPeer_secondsDue (p : Fin 12) (f : Peer → Peer) : (updPeer s p f).secondsDue = s.secondsDue := rfl
@[simp] theorem updPeer_loader (p : Fin 12) (f : Peer → Peer) : (updPeer s p f).loader = s.loader := rfl
@[simp] theorem updPeer_meas (p : Fin 12) (f : Peer → Peer) : (updPeer s p f).meas = s.meas := rfl
@[simp] theorem updPeer_zmeas (p : Fin 12) (f : Peer → Peer) : (updPeer s p f).zmeas = s.zmeas := rfl
@[simp] theorem updPeer_bays (p : Fin 12) (f : Peer → Peer) : (updPeer s p f).bays = s.bays := rfl
@[simp] theorem updPeer_packs (p : Fin 12) (f : Peer → Peer) : (updPeer s p f).packs = s.packs := rfl
@[simp] theorem updPeer_handover (p : Fin 12) (f : Peer → Peer) : (updPeer s p f).handover = s.handover := rfl
@[simp] theorem updPeer_zone (p : Fin 12) (f : Peer → Peer) : (updPeer s p f).zone = s.zone := rfl
@[simp] theorem updPeer_fire (p : Fin 12) (f : Peer → Peer) : (updPeer s p f).fire = s.fire := rfl
@[simp] theorem updPeer_causes (p : Fin 12) (f : Peer → Peer) : (updPeer s p f).causes = s.causes := rfl
@[simp] theorem updPeer_timers (p : Fin 12) (f : Peer → Peer) : (updPeer s p f).timers = s.timers := rfl
@[simp] theorem updPeer_peers (p : Fin 12) (f : Peer → Peer) : (updPeer s p f).peers = s.peers.set p.val (f s.peers[p]) p.isLt := rfl
@[simp] theorem updPeer_startUntil (p : Fin 12) (f : Peer → Peer) : (updPeer s p f).startUntil = s.startUntil := rfl
@[simp] theorem updPeer_bus (p : Fin 12) (f : Peer → Peer) : (updPeer s p f).bus = s.bus := rfl
@[simp] theorem updPeer_freeIndex (p : Fin 12) (f : Peer → Peer) : (updPeer s p f).freeIndex = s.freeIndex := rfl
@[simp] theorem updPeer_pending (p : Fin 12) (f : Peer → Peer) : (updPeer s p f).pending = s.pending := rfl

/-! ### updTimer -/

@[simp] theorem updTimer_now (d : Fin 16) (f : Timer → Timer) : (updTimer s d f).now = s.now := rfl
@[simp] theorem updTimer_secondsDue (d : Fin 16) (f : Timer → Timer) : (updTimer s d f).secondsDue = s.secondsDue := rfl
@[simp] theorem updTimer_loader (d : Fin 16) (f : Timer → Timer) : (updTimer s d f).loader = s.loader := rfl
@[simp] theorem updTimer_meas (d : Fin 16) (f : Timer → Timer) : (updTimer s d f).meas = s.meas := rfl
@[simp] theorem updTimer_zmeas (d : Fin 16) (f : Timer → Timer) : (updTimer s d f).zmeas = s.zmeas := rfl
@[simp] theorem updTimer_bays (d : Fin 16) (f : Timer → Timer) : (updTimer s d f).bays = s.bays := rfl
@[simp] theorem updTimer_packs (d : Fin 16) (f : Timer → Timer) : (updTimer s d f).packs = s.packs := rfl
@[simp] theorem updTimer_handover (d : Fin 16) (f : Timer → Timer) : (updTimer s d f).handover = s.handover := rfl
@[simp] theorem updTimer_zone (d : Fin 16) (f : Timer → Timer) : (updTimer s d f).zone = s.zone := rfl
@[simp] theorem updTimer_fire (d : Fin 16) (f : Timer → Timer) : (updTimer s d f).fire = s.fire := rfl
@[simp] theorem updTimer_causes (d : Fin 16) (f : Timer → Timer) : (updTimer s d f).causes = s.causes := rfl
@[simp] theorem updTimer_timers (d : Fin 16) (f : Timer → Timer) : (updTimer s d f).timers = s.timers.set d.val (f s.timers[d]) d.isLt := rfl
@[simp] theorem updTimer_peers (d : Fin 16) (f : Timer → Timer) : (updTimer s d f).peers = s.peers := rfl
@[simp] theorem updTimer_startUntil (d : Fin 16) (f : Timer → Timer) : (updTimer s d f).startUntil = s.startUntil := rfl
@[simp] theorem updTimer_bus (d : Fin 16) (f : Timer → Timer) : (updTimer s d f).bus = s.bus := rfl
@[simp] theorem updTimer_freeIndex (d : Fin 16) (f : Timer → Timer) : (updTimer s d f).freeIndex = s.freeIndex := rfl
@[simp] theorem updTimer_pending (d : Fin 16) (f : Timer → Timer) : (updTimer s d f).pending = s.pending := rfl

/-! ### updPacks -/

@[simp] theorem updPacks_now (f : PackTable → PackTable) : (updPacks s f).now = s.now := rfl
@[simp] theorem updPacks_secondsDue (f : PackTable → PackTable) : (updPacks s f).secondsDue = s.secondsDue := rfl
@[simp] theorem updPacks_loader (f : PackTable → PackTable) : (updPacks s f).loader = s.loader := rfl
@[simp] theorem updPacks_meas (f : PackTable → PackTable) : (updPacks s f).meas = s.meas := rfl
@[simp] theorem updPacks_zmeas (f : PackTable → PackTable) : (updPacks s f).zmeas = s.zmeas := rfl
@[simp] theorem updPacks_bays (f : PackTable → PackTable) : (updPacks s f).bays = s.bays := rfl
@[simp] theorem updPacks_packs (f : PackTable → PackTable) : (updPacks s f).packs = f s.packs := rfl
@[simp] theorem updPacks_handover (f : PackTable → PackTable) : (updPacks s f).handover = s.handover := rfl
@[simp] theorem updPacks_zone (f : PackTable → PackTable) : (updPacks s f).zone = s.zone := rfl
@[simp] theorem updPacks_fire (f : PackTable → PackTable) : (updPacks s f).fire = s.fire := rfl
@[simp] theorem updPacks_causes (f : PackTable → PackTable) : (updPacks s f).causes = s.causes := rfl
@[simp] theorem updPacks_timers (f : PackTable → PackTable) : (updPacks s f).timers = s.timers := rfl
@[simp] theorem updPacks_peers (f : PackTable → PackTable) : (updPacks s f).peers = s.peers := rfl
@[simp] theorem updPacks_startUntil (f : PackTable → PackTable) : (updPacks s f).startUntil = s.startUntil := rfl
@[simp] theorem updPacks_bus (f : PackTable → PackTable) : (updPacks s f).bus = s.bus := rfl
@[simp] theorem updPacks_freeIndex (f : PackTable → PackTable) : (updPacks s f).freeIndex = s.freeIndex := rfl
@[simp] theorem updPacks_pending (f : PackTable → PackTable) : (updPacks s f).pending = s.pending := rfl

/-! ### updLoader -/

@[simp] theorem updLoader_now (f : Loader → Loader) : (updLoader s f).now = s.now := rfl
@[simp] theorem updLoader_secondsDue (f : Loader → Loader) : (updLoader s f).secondsDue = s.secondsDue := rfl
@[simp] theorem updLoader_loader (f : Loader → Loader) : (updLoader s f).loader = f s.loader := rfl
@[simp] theorem updLoader_meas (f : Loader → Loader) : (updLoader s f).meas = s.meas := rfl
@[simp] theorem updLoader_zmeas (f : Loader → Loader) : (updLoader s f).zmeas = s.zmeas := rfl
@[simp] theorem updLoader_bays (f : Loader → Loader) : (updLoader s f).bays = s.bays := rfl
@[simp] theorem updLoader_packs (f : Loader → Loader) : (updLoader s f).packs = s.packs := rfl
@[simp] theorem updLoader_handover (f : Loader → Loader) : (updLoader s f).handover = s.handover := rfl
@[simp] theorem updLoader_zone (f : Loader → Loader) : (updLoader s f).zone = s.zone := rfl
@[simp] theorem updLoader_fire (f : Loader → Loader) : (updLoader s f).fire = s.fire := rfl
@[simp] theorem updLoader_causes (f : Loader → Loader) : (updLoader s f).causes = s.causes := rfl
@[simp] theorem updLoader_timers (f : Loader → Loader) : (updLoader s f).timers = s.timers := rfl
@[simp] theorem updLoader_peers (f : Loader → Loader) : (updLoader s f).peers = s.peers := rfl
@[simp] theorem updLoader_startUntil (f : Loader → Loader) : (updLoader s f).startUntil = s.startUntil := rfl
@[simp] theorem updLoader_bus (f : Loader → Loader) : (updLoader s f).bus = s.bus := rfl
@[simp] theorem updLoader_freeIndex (f : Loader → Loader) : (updLoader s f).freeIndex = s.freeIndex := rfl
@[simp] theorem updLoader_pending (f : Loader → Loader) : (updLoader s f).pending = s.pending := rfl

/-- Reading back the element that was written. -/
@[simp] theorem updMeas_same (b : BayIdx) (f : BayMeasure → BayMeasure) : (updMeas s b f).meas[b] = f s.meas[b] := by
  simp [updMeas]

/-- The other elements are as before. -/
theorem updMeas_other (b c : BayIdx) (f : BayMeasure → BayMeasure) (h : b ≠ c) : (updMeas s b f).meas[c] = s.meas[c] := by
  have : b.val ≠ c.val := fun e => h (Fin.ext e)
  simp [updMeas, this]

/-- Reading back the element that was written. -/
@[simp] theorem updBay_same (b : BayIdx) (f : Bay → Bay) : (updBay s b f).bays[b] = f s.bays[b] := by
  simp [updBay]

/-- The other elements are as before. -/
theorem updBay_other (b c : BayIdx) (f : Bay → Bay) (h : b ≠ c) : (updBay s b f).bays[c] = s.bays[c] := by
  have : b.val ≠ c.val := fun e => h (Fin.ext e)
  simp [updBay, this]

/-- Reading back the element that was written. -/
@[simp] theorem updHandover_same (b : BayIdx) (f : Handover → Handover) : (updHandover s b f).handover[b] = f s.handover[b] := by
  simp [updHandover]

/-- The other elements are as before. -/
theorem updHandover_other (b c : BayIdx) (f : Handover → Handover) (h : b ≠ c) : (updHandover s b f).handover[c] = s.handover[c] := by
  have : b.val ≠ c.val := fun e => h (Fin.ext e)
  simp [updHandover, this]

/-- Reading back the element that was written. -/
@[simp] theorem updPeer_same (b : Fin 12) (f : Peer → Peer) : (updPeer s b f).peers[b] = f s.peers[b] := by
  simp [updPeer]

/-- The other elements are as before. -/
theorem updPeer_other (b c : Fin 12) (f : Peer → Peer) (h : b ≠ c) : (updPeer s b f).peers[c] = s.peers[c] := by
  have : b.val ≠ c.val := fun e => h (Fin.ext e)
  simp [updPeer, this]

/-- Reading back the element that was written. -/
@[simp] theorem updTimer_same (b : Fin 16) (f : Timer → Timer) : (updTimer s b f).timers[b] = f s.timers[b] := by
  simp [updTimer]

/-- The other elements are as before. -/
theorem updTimer_other (b c : Fin 16) (f : Timer → Timer) (h : b ≠ c) : (updTimer s b f).timers[c] = s.timers[c] := by
  have : b.val ≠ c.val := fun e => h (Fin.ext e)
  simp [updTimer, this]

/-! ### updDetector -/

@[simp] theorem updDetector_now (n : Fin 4) (f : Detector → Detector) : (updDetector s n f).now = s.now := rfl
@[simp] theorem updDetector_secondsDue (n : Fin 4) (f : Detector → Detector) : (updDetector s n f).secondsDue = s.secondsDue := rfl
@[simp] theorem updDetector_loader (n : Fin 4) (f : Detector → Detector) : (updDetector s n f).loader = s.loader := rfl
@[simp] theorem updDetector_meas (n : Fin 4) (f : Detector → Detector) : (updDetector s n f).meas = s.meas := rfl
@[simp] theorem updDetector_zmeas (n : Fin 4) (f : Detector → Detector) : (updDetector s n f).zmeas = s.zmeas := rfl
@[simp] theorem updDetector_bays (n : Fin 4) (f : Detector → Detector) : (updDetector s n f).bays = s.bays := rfl
@[simp] theorem updDetector_packs (n : Fin 4) (f : Detector → Detector) : (updDetector s n f).packs = s.packs := rfl
@[simp] theorem updDetector_handover (n : Fin 4) (f : Detector → Detector) : (updDetector s n f).handover = s.handover := rfl
@[simp] theorem updDetector_zone (n : Fin 4) (f : Detector → Detector) : (updDetector s n f).zone = s.zone := rfl
@[simp] theorem updDetector_causes (n : Fin 4) (f : Detector → Detector) : (updDetector s n f).causes = s.causes := rfl
@[simp] theorem updDetector_timers (n : Fin 4) (f : Detector → Detector) : (updDetector s n f).timers = s.timers := rfl
@[simp] theorem updDetector_peers (n : Fin 4) (f : Detector → Detector) : (updDetector s n f).peers = s.peers := rfl
@[simp] theorem updDetector_startUntil (n : Fin 4) (f : Detector → Detector) : (updDetector s n f).startUntil = s.startUntil := rfl
@[simp] theorem updDetector_bus (n : Fin 4) (f : Detector → Detector) : (updDetector s n f).bus = s.bus := rfl
@[simp] theorem updDetector_freeIndex (n : Fin 4) (f : Detector → Detector) : (updDetector s n f).freeIndex = s.freeIndex := rfl
@[simp] theorem updDetector_pending (n : Fin 4) (f : Detector → Detector) : (updDetector s n f).pending = s.pending := rfl

/-! ### updRow -/

@[simp] theorem updRow_now (r : Row) (f : RowState → RowState) : (updRow s r f).now = s.now := rfl
@[simp] theorem updRow_secondsDue (r : Row) (f : RowState → RowState) : (updRow s r f).secondsDue = s.secondsDue := rfl
@[simp] theorem updRow_loader (r : Row) (f : RowState → RowState) : (updRow s r f).loader = s.loader := rfl
@[simp] theorem updRow_meas (r : Row) (f : RowState → RowState) : (updRow s r f).meas = s.meas := rfl
@[simp] theorem updRow_zmeas (r : Row) (f : RowState → RowState) : (updRow s r f).zmeas = s.zmeas := rfl
@[simp] theorem updRow_bays (r : Row) (f : RowState → RowState) : (updRow s r f).bays = s.bays := rfl
@[simp] theorem updRow_packs (r : Row) (f : RowState → RowState) : (updRow s r f).packs = s.packs := rfl
@[simp] theorem updRow_handover (r : Row) (f : RowState → RowState) : (updRow s r f).handover = s.handover := rfl
@[simp] theorem updRow_zone (r : Row) (f : RowState → RowState) : (updRow s r f).zone = s.zone := rfl
@[simp] theorem updRow_fire (r : Row) (f : RowState → RowState) : (updRow s r f).fire = s.fire := rfl
@[simp] theorem updRow_timers (r : Row) (f : RowState → RowState) : (updRow s r f).timers = s.timers := rfl
@[simp] theorem updRow_peers (r : Row) (f : RowState → RowState) : (updRow s r f).peers = s.peers := rfl
@[simp] theorem updRow_startUntil (r : Row) (f : RowState → RowState) : (updRow s r f).startUntil = s.startUntil := rfl
@[simp] theorem updRow_bus (r : Row) (f : RowState → RowState) : (updRow s r f).bus = s.bus := rfl
@[simp] theorem updRow_freeIndex (r : Row) (f : RowState → RowState) : (updRow s r f).freeIndex = s.freeIndex := rfl
@[simp] theorem updRow_pending (r : Row) (f : RowState → RowState) : (updRow s r f).pending = s.pending := rfl

/-! ### updRecords -/

@[simp] theorem updRecords_now (f : List PackRecord → List PackRecord) : (updRecords s f).now = s.now := rfl
@[simp] theorem updRecords_secondsDue (f : List PackRecord → List PackRecord) : (updRecords s f).secondsDue = s.secondsDue := rfl
@[simp] theorem updRecords_loader (f : List PackRecord → List PackRecord) : (updRecords s f).loader = s.loader := rfl
@[simp] theorem updRecords_meas (f : List PackRecord → List PackRecord) : (updRecords s f).meas = s.meas := rfl
@[simp] theorem updRecords_zmeas (f : List PackRecord → List PackRecord) : (updRecords s f).zmeas = s.zmeas := rfl
@[simp] theorem updRecords_bays (f : List PackRecord → List PackRecord) : (updRecords s f).bays = s.bays := rfl
@[simp] theorem updRecords_handover (f : List PackRecord → List PackRecord) : (updRecords s f).handover = s.handover := rfl
@[simp] theorem updRecords_zone (f : List PackRecord → List PackRecord) : (updRecords s f).zone = s.zone := rfl
@[simp] theorem updRecords_fire (f : List PackRecord → List PackRecord) : (updRecords s f).fire = s.fire := rfl
@[simp] theorem updRecords_causes (f : List PackRecord → List PackRecord) : (updRecords s f).causes = s.causes := rfl
@[simp] theorem updRecords_timers (f : List PackRecord → List PackRecord) : (updRecords s f).timers = s.timers := rfl
@[simp] theorem updRecords_peers (f : List PackRecord → List PackRecord) : (updRecords s f).peers = s.peers := rfl
@[simp] theorem updRecords_startUntil (f : List PackRecord → List PackRecord) : (updRecords s f).startUntil = s.startUntil := rfl
@[simp] theorem updRecords_bus (f : List PackRecord → List PackRecord) : (updRecords s f).bus = s.bus := rfl
@[simp] theorem updRecords_freeIndex (f : List PackRecord → List PackRecord) : (updRecords s f).freeIndex = s.freeIndex := rfl
@[simp] theorem updRecords_pending (f : List PackRecord → List PackRecord) : (updRecords s f).pending = s.pending := rfl

/-! ### updRecordOfBay -/

@[simp] theorem updRecordOfBay_now (b : BayIdx) (f : PackRecord → PackRecord) : (updRecordOfBay s b f).now = s.now := rfl
@[simp] theorem updRecordOfBay_secondsDue (b : BayIdx) (f : PackRecord → PackRecord) : (updRecordOfBay s b f).secondsDue = s.secondsDue := rfl
@[simp] theorem updRecordOfBay_loader (b : BayIdx) (f : PackRecord → PackRecord) : (updRecordOfBay s b f).loader = s.loader := rfl
@[simp] theorem updRecordOfBay_meas (b : BayIdx) (f : PackRecord → PackRecord) : (updRecordOfBay s b f).meas = s.meas := rfl
@[simp] theorem updRecordOfBay_zmeas (b : BayIdx) (f : PackRecord → PackRecord) : (updRecordOfBay s b f).zmeas = s.zmeas := rfl
@[simp] theorem updRecordOfBay_bays (b : BayIdx) (f : PackRecord → PackRecord) : (updRecordOfBay s b f).bays = s.bays := rfl
@[simp] theorem updRecordOfBay_handover (b : BayIdx) (f : PackRecord → PackRecord) : (updRecordOfBay s b f).handover = s.handover := rfl
@[simp] theorem updRecordOfBay_zone (b : BayIdx) (f : PackRecord → PackRecord) : (updRecordOfBay s b f).zone = s.zone := rfl
@[simp] theorem updRecordOfBay_fire (b : BayIdx) (f : PackRecord → PackRecord) : (updRecordOfBay s b f).fire = s.fire := rfl
@[simp] theorem updRecordOfBay_causes (b : BayIdx) (f : PackRecord → PackRecord) : (updRecordOfBay s b f).causes = s.causes := rfl
@[simp] theorem updRecordOfBay_timers (b : BayIdx) (f : PackRecord → PackRecord) : (updRecordOfBay s b f).timers = s.timers := rfl
@[simp] theorem updRecordOfBay_peers (b : BayIdx) (f : PackRecord → PackRecord) : (updRecordOfBay s b f).peers = s.peers := rfl
@[simp] theorem updRecordOfBay_startUntil (b : BayIdx) (f : PackRecord → PackRecord) : (updRecordOfBay s b f).startUntil = s.startUntil := rfl
@[simp] theorem updRecordOfBay_bus (b : BayIdx) (f : PackRecord → PackRecord) : (updRecordOfBay s b f).bus = s.bus := rfl
@[simp] theorem updRecordOfBay_freeIndex (b : BayIdx) (f : PackRecord → PackRecord) : (updRecordOfBay s b f).freeIndex = s.freeIndex := rfl
@[simp] theorem updRecordOfBay_pending (b : BayIdx) (f : PackRecord → PackRecord) : (updRecordOfBay s b f).pending = s.pending := rfl

/-! ### updRecordOfId -/

@[simp] theorem updRecordOfId_now (id : PackId) (f : PackRecord → PackRecord) : (updRecordOfId s id f).now = s.now := rfl
@[simp] theorem updRecordOfId_secondsDue (id : PackId) (f : PackRecord → PackRecord) : (updRecordOfId s id f).secondsDue = s.secondsDue := rfl
@[simp] theorem updRecordOfId_loader (id : PackId) (f : PackRecord → PackRecord) : (updRecordOfId s id f).loader = s.loader := rfl
@[simp] theorem updRecordOfId_meas (id : PackId) (f : PackRecord → PackRecord) : (updRecordOfId s id f).meas = s.meas := rfl
@[simp] theorem updRecordOfId_zmeas (id : PackId) (f : PackRecord → PackRecord) : (updRecordOfId s id f).zmeas = s.zmeas := rfl
@[simp] theorem updRecordOfId_bays (id : PackId) (f : PackRecord → PackRecord) : (updRecordOfId s id f).bays = s.bays := rfl
@[simp] theorem updRecordOfId_handover (id : PackId) (f : PackRecord → PackRecord) : (updRecordOfId s id f).handover = s.handover := rfl
@[simp] theorem updRecordOfId_zone (id : PackId) (f : PackRecord → PackRecord) : (updRecordOfId s id f).zone = s.zone := rfl
@[simp] theorem updRecordOfId_fire (id : PackId) (f : PackRecord → PackRecord) : (updRecordOfId s id f).fire = s.fire := rfl
@[simp] theorem updRecordOfId_causes (id : PackId) (f : PackRecord → PackRecord) : (updRecordOfId s id f).causes = s.causes := rfl
@[simp] theorem updRecordOfId_timers (id : PackId) (f : PackRecord → PackRecord) : (updRecordOfId s id f).timers = s.timers := rfl
@[simp] theorem updRecordOfId_peers (id : PackId) (f : PackRecord → PackRecord) : (updRecordOfId s id f).peers = s.peers := rfl
@[simp] theorem updRecordOfId_startUntil (id : PackId) (f : PackRecord → PackRecord) : (updRecordOfId s id f).startUntil = s.startUntil := rfl
@[simp] theorem updRecordOfId_bus (id : PackId) (f : PackRecord → PackRecord) : (updRecordOfId s id f).bus = s.bus := rfl
@[simp] theorem updRecordOfId_freeIndex (id : PackId) (f : PackRecord → PackRecord) : (updRecordOfId s id f).freeIndex = s.freeIndex := rfl
@[simp] theorem updRecordOfId_pending (id : PackId) (f : PackRecord → PackRecord) : (updRecordOfId s id f).pending = s.pending := rfl

/-! ### removeRecordOfId -/

@[simp] theorem removeRecordOfId_now (id : PackId) : (removeRecordOfId s id).now = s.now := rfl
@[simp] theorem removeRecordOfId_secondsDue (id : PackId) : (removeRecordOfId s id).secondsDue = s.secondsDue := rfl
@[simp] theorem removeRecordOfId_loader (id : PackId) : (removeRecordOfId s id).loader = s.loader := rfl
@[simp] theorem removeRecordOfId_meas (id : PackId) : (removeRecordOfId s id).meas = s.meas := rfl
@[simp] theorem removeRecordOfId_zmeas (id : PackId) : (removeRecordOfId s id).zmeas = s.zmeas := rfl
@[simp] theorem removeRecordOfId_bays (id : PackId) : (removeRecordOfId s id).bays = s.bays := rfl
@[simp] theorem removeRecordOfId_handover (id : PackId) : (removeRecordOfId s id).handover = s.handover := rfl
@[simp] theorem removeRecordOfId_zone (id : PackId) : (removeRecordOfId s id).zone = s.zone := rfl
@[simp] theorem removeRecordOfId_fire (id : PackId) : (removeRecordOfId s id).fire = s.fire := rfl
@[simp] theorem removeRecordOfId_causes (id : PackId) : (removeRecordOfId s id).causes = s.causes := rfl
@[simp] theorem removeRecordOfId_timers (id : PackId) : (removeRecordOfId s id).timers = s.timers := rfl
@[simp] theorem removeRecordOfId_peers (id : PackId) : (removeRecordOfId s id).peers = s.peers := rfl
@[simp] theorem removeRecordOfId_startUntil (id : PackId) : (removeRecordOfId s id).startUntil = s.startUntil := rfl
@[simp] theorem removeRecordOfId_bus (id : PackId) : (removeRecordOfId s id).bus = s.bus := rfl
@[simp] theorem removeRecordOfId_freeIndex (id : PackId) : (removeRecordOfId s id).freeIndex = s.freeIndex := rfl
@[simp] theorem removeRecordOfId_pending (id : PackId) : (removeRecordOfId s id).pending = s.pending := rfl

/-! ### addRecord -/

@[simp] theorem addRecord_now (r : PackRecord) : (addRecord s r).now = s.now := rfl
@[simp] theorem addRecord_secondsDue (r : PackRecord) : (addRecord s r).secondsDue = s.secondsDue := rfl
@[simp] theorem addRecord_loader (r : PackRecord) : (addRecord s r).loader = s.loader := rfl
@[simp] theorem addRecord_meas (r : PackRecord) : (addRecord s r).meas = s.meas := rfl
@[simp] theorem addRecord_zmeas (r : PackRecord) : (addRecord s r).zmeas = s.zmeas := rfl
@[simp] theorem addRecord_bays (r : PackRecord) : (addRecord s r).bays = s.bays := rfl
@[simp] theorem addRecord_handover (r : PackRecord) : (addRecord s r).handover = s.handover := rfl
@[simp] theorem addRecord_zone (r : PackRecord) : (addRecord s r).zone = s.zone := rfl
@[simp] theorem addRecord_fire (r : PackRecord) : (addRecord s r).fire = s.fire := rfl
@[simp] theorem addRecord_causes (r : PackRecord) : (addRecord s r).causes = s.causes := rfl
@[simp] theorem addRecord_timers (r : PackRecord) : (addRecord s r).timers = s.timers := rfl
@[simp] theorem addRecord_peers (r : PackRecord) : (addRecord s r).peers = s.peers := rfl
@[simp] theorem addRecord_startUntil (r : PackRecord) : (addRecord s r).startUntil = s.startUntil := rfl
@[simp] theorem addRecord_bus (r : PackRecord) : (addRecord s r).bus = s.bus := rfl
@[simp] theorem addRecord_freeIndex (r : PackRecord) : (addRecord s r).freeIndex = s.freeIndex := rfl
@[simp] theorem addRecord_pending (r : PackRecord) : (addRecord s r).pending = s.pending := rfl

/-! ### updCounters -/

@[simp] theorem updCounters_now (f : Counters → Counters) : (updCounters s f).now = s.now := rfl
@[simp] theorem updCounters_secondsDue (f : Counters → Counters) : (updCounters s f).secondsDue = s.secondsDue := rfl
@[simp] theorem updCounters_loader (f : Counters → Counters) : (updCounters s f).loader = s.loader := rfl
@[simp] theorem updCounters_meas (f : Counters → Counters) : (updCounters s f).meas = s.meas := rfl
@[simp] theorem updCounters_zmeas (f : Counters → Counters) : (updCounters s f).zmeas = s.zmeas := rfl
@[simp] theorem updCounters_bays (f : Counters → Counters) : (updCounters s f).bays = s.bays := rfl
@[simp] theorem updCounters_handover (f : Counters → Counters) : (updCounters s f).handover = s.handover := rfl
@[simp] theorem updCounters_zone (f : Counters → Counters) : (updCounters s f).zone = s.zone := rfl
@[simp] theorem updCounters_fire (f : Counters → Counters) : (updCounters s f).fire = s.fire := rfl
@[simp] theorem updCounters_causes (f : Counters → Counters) : (updCounters s f).causes = s.causes := rfl
@[simp] theorem updCounters_timers (f : Counters → Counters) : (updCounters s f).timers = s.timers := rfl
@[simp] theorem updCounters_peers (f : Counters → Counters) : (updCounters s f).peers = s.peers := rfl
@[simp] theorem updCounters_startUntil (f : Counters → Counters) : (updCounters s f).startUntil = s.startUntil := rfl
@[simp] theorem updCounters_bus (f : Counters → Counters) : (updCounters s f).bus = s.bus := rfl
@[simp] theorem updCounters_freeIndex (f : Counters → Counters) : (updCounters s f).freeIndex = s.freeIndex := rfl
@[simp] theorem updCounters_pending (f : Counters → Counters) : (updCounters s f).pending = s.pending := rfl

/-! ### addDischarged -/

@[simp] theorem addDischarged_now (e : Int) : (addDischarged s e).now = s.now := rfl
@[simp] theorem addDischarged_secondsDue (e : Int) : (addDischarged s e).secondsDue = s.secondsDue := rfl
@[simp] theorem addDischarged_loader (e : Int) : (addDischarged s e).loader = s.loader := rfl
@[simp] theorem addDischarged_meas (e : Int) : (addDischarged s e).meas = s.meas := rfl
@[simp] theorem addDischarged_zmeas (e : Int) : (addDischarged s e).zmeas = s.zmeas := rfl
@[simp] theorem addDischarged_bays (e : Int) : (addDischarged s e).bays = s.bays := rfl
@[simp] theorem addDischarged_handover (e : Int) : (addDischarged s e).handover = s.handover := rfl
@[simp] theorem addDischarged_zone (e : Int) : (addDischarged s e).zone = s.zone := rfl
@[simp] theorem addDischarged_fire (e : Int) : (addDischarged s e).fire = s.fire := rfl
@[simp] theorem addDischarged_causes (e : Int) : (addDischarged s e).causes = s.causes := rfl
@[simp] theorem addDischarged_timers (e : Int) : (addDischarged s e).timers = s.timers := rfl
@[simp] theorem addDischarged_peers (e : Int) : (addDischarged s e).peers = s.peers := rfl
@[simp] theorem addDischarged_startUntil (e : Int) : (addDischarged s e).startUntil = s.startUntil := rfl
@[simp] theorem addDischarged_bus (e : Int) : (addDischarged s e).bus = s.bus := rfl
@[simp] theorem addDischarged_freeIndex (e : Int) : (addDischarged s e).freeIndex = s.freeIndex := rfl
@[simp] theorem addDischarged_pending (e : Int) : (addDischarged s e).pending = s.pending := rfl

/-! ### addShredded -/

@[simp] theorem addShredded_now (r : Option Nat) : (addShredded s r).now = s.now := rfl
@[simp] theorem addShredded_secondsDue (r : Option Nat) : (addShredded s r).secondsDue = s.secondsDue := rfl
@[simp] theorem addShredded_loader (r : Option Nat) : (addShredded s r).loader = s.loader := rfl
@[simp] theorem addShredded_meas (r : Option Nat) : (addShredded s r).meas = s.meas := rfl
@[simp] theorem addShredded_zmeas (r : Option Nat) : (addShredded s r).zmeas = s.zmeas := rfl
@[simp] theorem addShredded_bays (r : Option Nat) : (addShredded s r).bays = s.bays := rfl
@[simp] theorem addShredded_handover (r : Option Nat) : (addShredded s r).handover = s.handover := rfl
@[simp] theorem addShredded_zone (r : Option Nat) : (addShredded s r).zone = s.zone := rfl
@[simp] theorem addShredded_fire (r : Option Nat) : (addShredded s r).fire = s.fire := rfl
@[simp] theorem addShredded_causes (r : Option Nat) : (addShredded s r).causes = s.causes := rfl
@[simp] theorem addShredded_timers (r : Option Nat) : (addShredded s r).timers = s.timers := rfl
@[simp] theorem addShredded_peers (r : Option Nat) : (addShredded s r).peers = s.peers := rfl
@[simp] theorem addShredded_startUntil (r : Option Nat) : (addShredded s r).startUntil = s.startUntil := rfl
@[simp] theorem addShredded_bus (r : Option Nat) : (addShredded s r).bus = s.bus := rfl
@[simp] theorem addShredded_freeIndex (r : Option Nat) : (addShredded s r).freeIndex = s.freeIndex := rfl
@[simp] theorem addShredded_pending (r : Option Nat) : (addShredded s r).pending = s.pending := rfl

/-! ### queueReply -/

@[simp] theorem queueReply_now (r : Reply) : (queueReply s r).now = s.now := rfl
@[simp] theorem queueReply_secondsDue (r : Reply) : (queueReply s r).secondsDue = s.secondsDue := rfl
@[simp] theorem queueReply_loader (r : Reply) : (queueReply s r).loader = s.loader := rfl
@[simp] theorem queueReply_meas (r : Reply) : (queueReply s r).meas = s.meas := rfl
@[simp] theorem queueReply_zmeas (r : Reply) : (queueReply s r).zmeas = s.zmeas := rfl
@[simp] theorem queueReply_bays (r : Reply) : (queueReply s r).bays = s.bays := rfl
@[simp] theorem queueReply_packs (r : Reply) : (queueReply s r).packs = s.packs := rfl
@[simp] theorem queueReply_handover (r : Reply) : (queueReply s r).handover = s.handover := rfl
@[simp] theorem queueReply_zone (r : Reply) : (queueReply s r).zone = s.zone := rfl
@[simp] theorem queueReply_fire (r : Reply) : (queueReply s r).fire = s.fire := rfl
@[simp] theorem queueReply_causes (r : Reply) : (queueReply s r).causes = s.causes := rfl
@[simp] theorem queueReply_timers (r : Reply) : (queueReply s r).timers = s.timers := rfl
@[simp] theorem queueReply_peers (r : Reply) : (queueReply s r).peers = s.peers := rfl
@[simp] theorem queueReply_startUntil (r : Reply) : (queueReply s r).startUntil = s.startUntil := rfl
@[simp] theorem queueReply_freeIndex (r : Reply) : (queueReply s r).freeIndex = s.freeIndex := rfl
@[simp] theorem queueReply_pending (r : Reply) : (queueReply s r).pending = s.pending := rfl

/-! ### dropOffer -/

@[simp] theorem dropOffer_now (b : BayIdx) : (dropOffer s b).now = s.now := rfl
@[simp] theorem dropOffer_secondsDue (b : BayIdx) : (dropOffer s b).secondsDue = s.secondsDue := rfl
@[simp] theorem dropOffer_loader (b : BayIdx) : (dropOffer s b).loader = s.loader := rfl
@[simp] theorem dropOffer_meas (b : BayIdx) : (dropOffer s b).meas = s.meas := rfl
@[simp] theorem dropOffer_zmeas (b : BayIdx) : (dropOffer s b).zmeas = s.zmeas := rfl
@[simp] theorem dropOffer_bays (b : BayIdx) : (dropOffer s b).bays = s.bays := rfl
@[simp] theorem dropOffer_packs (b : BayIdx) : (dropOffer s b).packs = s.packs := rfl
@[simp] theorem dropOffer_handover (b : BayIdx) : (dropOffer s b).handover = s.handover := rfl
@[simp] theorem dropOffer_zone (b : BayIdx) : (dropOffer s b).zone = s.zone := rfl
@[simp] theorem dropOffer_fire (b : BayIdx) : (dropOffer s b).fire = s.fire := rfl
@[simp] theorem dropOffer_causes (b : BayIdx) : (dropOffer s b).causes = s.causes := rfl
@[simp] theorem dropOffer_timers (b : BayIdx) : (dropOffer s b).timers = s.timers := rfl
@[simp] theorem dropOffer_peers (b : BayIdx) : (dropOffer s b).peers = s.peers := rfl
@[simp] theorem dropOffer_startUntil (b : BayIdx) : (dropOffer s b).startUntil = s.startUntil := rfl
@[simp] theorem dropOffer_freeIndex (b : BayIdx) : (dropOffer s b).freeIndex = s.freeIndex := rfl
@[simp] theorem dropOffer_pending (b : BayIdx) : (dropOffer s b).pending = s.pending := rfl

/-! ### queueTrip -/

@[simp] theorem queueTrip_now (c : TripClass) (x : Sections) : (queueTrip s c x).now = s.now := rfl
@[simp] theorem queueTrip_secondsDue (c : TripClass) (x : Sections) : (queueTrip s c x).secondsDue = s.secondsDue := rfl
@[simp] theorem queueTrip_loader (c : TripClass) (x : Sections) : (queueTrip s c x).loader = s.loader := rfl
@[simp] theorem queueTrip_meas (c : TripClass) (x : Sections) : (queueTrip s c x).meas = s.meas := rfl
@[simp] theorem queueTrip_zmeas (c : TripClass) (x : Sections) : (queueTrip s c x).zmeas = s.zmeas := rfl
@[simp] theorem queueTrip_bays (c : TripClass) (x : Sections) : (queueTrip s c x).bays = s.bays := rfl
@[simp] theorem queueTrip_packs (c : TripClass) (x : Sections) : (queueTrip s c x).packs = s.packs := rfl
@[simp] theorem queueTrip_handover (c : TripClass) (x : Sections) : (queueTrip s c x).handover = s.handover := rfl
@[simp] theorem queueTrip_zone (c : TripClass) (x : Sections) : (queueTrip s c x).zone = s.zone := rfl
@[simp] theorem queueTrip_fire (c : TripClass) (x : Sections) : (queueTrip s c x).fire = s.fire := rfl
@[simp] theorem queueTrip_causes (c : TripClass) (x : Sections) : (queueTrip s c x).causes = s.causes := rfl
@[simp] theorem queueTrip_timers (c : TripClass) (x : Sections) : (queueTrip s c x).timers = s.timers := rfl
@[simp] theorem queueTrip_peers (c : TripClass) (x : Sections) : (queueTrip s c x).peers = s.peers := rfl
@[simp] theorem queueTrip_startUntil (c : TripClass) (x : Sections) : (queueTrip s c x).startUntil = s.startUntil := rfl
@[simp] theorem queueTrip_freeIndex (c : TripClass) (x : Sections) : (queueTrip s c x).freeIndex = s.freeIndex := rfl
@[simp] theorem queueTrip_pending (c : TripClass) (x : Sections) : (queueTrip s c x).pending = s.pending := rfl

/-! ### queueHandover -/

@[simp] theorem queueHandover_now (d : Addr) (x : HandoverBody) : (queueHandover s d x).now = s.now := by
  unfold queueHandover; split <;> rfl
@[simp] theorem queueHandover_secondsDue (d : Addr) (x : HandoverBody) : (queueHandover s d x).secondsDue = s.secondsDue := by
  unfold queueHandover; split <;> rfl
@[simp] theorem queueHandover_loader (d : Addr) (x : HandoverBody) : (queueHandover s d x).loader = s.loader := by
  unfold queueHandover; split <;> rfl
@[simp] theorem queueHandover_meas (d : Addr) (x : HandoverBody) : (queueHandover s d x).meas = s.meas := by
  unfold queueHandover; split <;> rfl
@[simp] theorem queueHandover_zmeas (d : Addr) (x : HandoverBody) : (queueHandover s d x).zmeas = s.zmeas := by
  unfold queueHandover; split <;> rfl
@[simp] theorem queueHandover_bays (d : Addr) (x : HandoverBody) : (queueHandover s d x).bays = s.bays := by
  unfold queueHandover; split <;> rfl
@[simp] theorem queueHandover_packs (d : Addr) (x : HandoverBody) : (queueHandover s d x).packs = s.packs := by
  unfold queueHandover; split <;> rfl
@[simp] theorem queueHandover_handover (d : Addr) (x : HandoverBody) : (queueHandover s d x).handover = s.handover := by
  unfold queueHandover; split <;> rfl
@[simp] theorem queueHandover_zone (d : Addr) (x : HandoverBody) : (queueHandover s d x).zone = s.zone := by
  unfold queueHandover; split <;> rfl
@[simp] theorem queueHandover_fire (d : Addr) (x : HandoverBody) : (queueHandover s d x).fire = s.fire := by
  unfold queueHandover; split <;> rfl
@[simp] theorem queueHandover_causes (d : Addr) (x : HandoverBody) : (queueHandover s d x).causes = s.causes := by
  unfold queueHandover; split <;> rfl
@[simp] theorem queueHandover_timers (d : Addr) (x : HandoverBody) : (queueHandover s d x).timers = s.timers := by
  unfold queueHandover; split <;> rfl
@[simp] theorem queueHandover_peers (d : Addr) (x : HandoverBody) : (queueHandover s d x).peers = s.peers := by
  unfold queueHandover; split <;> rfl
@[simp] theorem queueHandover_startUntil (d : Addr) (x : HandoverBody) : (queueHandover s d x).startUntil = s.startUntil := by
  unfold queueHandover; split <;> rfl
@[simp] theorem queueHandover_freeIndex (d : Addr) (x : HandoverBody) : (queueHandover s d x).freeIndex = s.freeIndex := by
  unfold queueHandover; split <;> rfl
@[simp] theorem queueHandover_pending (d : Addr) (x : HandoverBody) : (queueHandover s d x).pending = s.pending := by
  unfold queueHandover; split <;> rfl

/-! ### The pack table -/

@[simp] theorem updRecords_packs_records (f : List PackRecord → List PackRecord) : (updRecords s f).packs.records = f s.packs.records := rfl
@[simp] theorem updRecords_packs_counters (f : List PackRecord → List PackRecord) : (updRecords s f).packs.counters = s.packs.counters := rfl
@[simp] theorem updRecords_packs_dischargedTotal (f : List PackRecord → List PackRecord) : (updRecords s f).packs.dischargedTotal = s.packs.dischargedTotal := rfl
@[simp] theorem updRecords_packs_shreddedTotal (f : List PackRecord → List PackRecord) : (updRecords s f).packs.shreddedTotal = s.packs.shreddedTotal := rfl
@[simp] theorem updRecordOfBay_packs_records (b : BayIdx) (f : PackRecord → PackRecord) : (updRecordOfBay s b f).packs.records = modifyFirst (isAtBay b) f s.packs.records := rfl
@[simp] theorem updRecordOfBay_packs_counters (b : BayIdx) (f : PackRecord → PackRecord) : (updRecordOfBay s b f).packs.counters = s.packs.counters := rfl
@[simp] theorem updRecordOfBay_packs_dischargedTotal (b : BayIdx) (f : PackRecord → PackRecord) : (updRecordOfBay s b f).packs.dischargedTotal = s.packs.dischargedTotal := rfl
@[simp] theorem updRecordOfBay_packs_shreddedTotal (b : BayIdx) (f : PackRecord → PackRecord) : (updRecordOfBay s b f).packs.shreddedTotal = s.packs.shreddedTotal := rfl
@[simp] theorem updRecordOfId_packs_records (id : PackId) (f : PackRecord → PackRecord) : (updRecordOfId s id f).packs.records = modifyFirst (hasId id) f s.packs.records := rfl
@[simp] theorem updRecordOfId_packs_counters (id : PackId) (f : PackRecord → PackRecord) : (updRecordOfId s id f).packs.counters = s.packs.counters := rfl
@[simp] theorem updRecordOfId_packs_dischargedTotal (id : PackId) (f : PackRecord → PackRecord) : (updRecordOfId s id f).packs.dischargedTotal = s.packs.dischargedTotal := rfl
@[simp] theorem updRecordOfId_packs_shreddedTotal (id : PackId) (f : PackRecord → PackRecord) : (updRecordOfId s id f).packs.shreddedTotal = s.packs.shreddedTotal := rfl
@[simp] theorem removeRecordOfId_packs_records (id : PackId) : (removeRecordOfId s id).packs.records = s.packs.records.eraseP (hasId id) := rfl
@[simp] theorem removeRecordOfId_packs_counters (id : PackId) : (removeRecordOfId s id).packs.counters = s.packs.counters := rfl
@[simp] theorem removeRecordOfId_packs_dischargedTotal (id : PackId) : (removeRecordOfId s id).packs.dischargedTotal = s.packs.dischargedTotal := rfl
@[simp] theorem removeRecordOfId_packs_shreddedTotal (id : PackId) : (removeRecordOfId s id).packs.shreddedTotal = s.packs.shreddedTotal := rfl
@[simp] theorem addRecord_packs_records (r : PackRecord) : (addRecord s r).packs.records = s.packs.records ++ [r] := rfl
@[simp] theorem addRecord_packs_counters (r : PackRecord) : (addRecord s r).packs.counters = s.packs.counters := rfl
@[simp] theorem addRecord_packs_dischargedTotal (r : PackRecord) : (addRecord s r).packs.dischargedTotal = s.packs.dischargedTotal := rfl
@[simp] theorem addRecord_packs_shreddedTotal (r : PackRecord) : (addRecord s r).packs.shreddedTotal = s.packs.shreddedTotal := rfl
@[simp] theorem updCounters_packs_records (f : Counters → Counters) : (updCounters s f).packs.records = s.packs.records := rfl
@[simp] theorem updCounters_packs_counters (f : Counters → Counters) : (updCounters s f).packs.counters = f s.packs.counters := rfl
@[simp] theorem updCounters_packs_dischargedTotal (f : Counters → Counters) : (updCounters s f).packs.dischargedTotal = s.packs.dischargedTotal := rfl
@[simp] theorem updCounters_packs_shreddedTotal (f : Counters → Counters) : (updCounters s f).packs.shreddedTotal = s.packs.shreddedTotal := rfl
@[simp] theorem addDischarged_packs_records (e : Int) : (addDischarged s e).packs.records = s.packs.records := rfl
@[simp] theorem addDischarged_packs_counters (e : Int) : (addDischarged s e).packs.counters = s.packs.counters := rfl
@[simp] theorem addDischarged_packs_dischargedTotal (e : Int) : (addDischarged s e).packs.dischargedTotal = min Config.totalMax (s.packs.dischargedTotal + e.toNat) := rfl
@[simp] theorem addDischarged_packs_shreddedTotal (e : Int) : (addDischarged s e).packs.shreddedTotal = s.packs.shreddedTotal := rfl
@[simp] theorem addShredded_packs_records (r : Option Nat) : (addShredded s r).packs.records = s.packs.records := rfl
@[simp] theorem addShredded_packs_counters (r : Option Nat) : (addShredded s r).packs.counters = s.packs.counters := rfl
@[simp] theorem addShredded_packs_dischargedTotal (r : Option Nat) : (addShredded s r).packs.dischargedTotal = s.packs.dischargedTotal := rfl
@[simp] theorem addShredded_packs_shreddedTotal (r : Option Nat) : (addShredded s r).packs.shreddedTotal = min Config.totalMax (s.packs.shreddedTotal + r.getD 0) := rfl

/-! ### Rows -/

/-- The row that was written reads back. -/
@[simp] theorem rowState_updRow_same (r : Row) (f : RowState → RowState) : rowState (updRow s r f) r = f (rowState s r) := by
  simp [rowState, updRow]

/-- Rows at other places are as before. -/
theorem rowState_updRow_other (r q : Row) (f : RowState → RowState) (h : rowIndex r ≠ rowIndex q) :
    rowState (updRow s r f) q = rowState s q := by
  have : (rowIndex r).val ≠ (rowIndex q).val := fun e => h (Fin.ext e)
  simp [rowState, updRow, this]

end Sys2Proof.Machine
end

