-- ==== Sys2Proof/Laws/Reaction.lean ====
section
/-! SUPPORT. What the transitions inside an event can write: one lemma per transition, and that all the reactions of an event keep what
ReactionFrame lists. -/

namespace Sys2Proof.Machine

/-! ### The relation -/

theorem SameFigures.refl (r : PackRecord) : SameFigures r r := by constructor <;> simp

theorem SameFigures.trans {a b c : PackRecord} (h : SameFigures a b) (k : SameFigures b c) : SameFigures a c := by
  constructor
  case stage =>
    rcases h.stage with e | ⟨e, e'⟩
    · rcases k.stage with d | ⟨d, d'⟩
      · exact .inl (d.trans e)
      · exact .inr ⟨e ▸ d, d'⟩
    · rcases k.stage with d | ⟨d, -⟩
      · exact .inr ⟨e, d.trans e'⟩
      · rw [e'] at d; cases d
  all_goals first
    | exact k.id.trans h.id | exact k.bay.trans h.bay | exact k.origin.trans h.origin | exact k.cls.trans h.cls
    | exact k.cells.trans h.cells | exact k.edecl.trans h.edecl | exact k.qdis.trans h.qdis | exact k.edis.trans h.edis
    | exact k.residual.trans h.residual | exact k.acc.trans h.acc | exact k.degraded.trans h.degraded
    | exact k.admittedAt.trans h.admittedAt | exact k.unanswered.trans h.unanswered

theorem sameFigures_list_refl (l : List PackRecord) : List.Forall₂ SameFigures l l :=
  List.forall₂_same.2 fun r _ => SameFigures.refl r

theorem sameFigures_modifyFirst (p : PackRecord → Bool) (f : PackRecord → PackRecord) (l : List PackRecord)
    (h : ∀ r, p r = true → SameFigures r (f r)) : List.Forall₂ SameFigures l (modifyFirst p f l) := by
  induction l with
  | nil => exact .nil
  | cons x xs ih =>
    unfold modifyFirst
    split
    · exact .cons (h x ‹_›) (sameFigures_list_refl xs)
    · exact .cons (SameFigures.refl x) ih

theorem sameFigures_list_trans {a b c : List PackRecord} (h : List.Forall₂ SameFigures a b) (k : List.Forall₂ SameFigures b c) :
    List.Forall₂ SameFigures a c := by
  induction h generalizing c with
  | nil => cases k; exact .nil
  | cons x _ ih => cases k with | cons y ys => exact .cons (x.trans y) (ih ys)

theorem ReactionFrame.refl (s : State) : ReactionFrame s s := by
  constructor <;> first | rfl | exact sameFigures_list_refl _

theorem ReactionFrame.trans {s t u : State} (h : ReactionFrame s t) (k : ReactionFrame t u) : ReactionFrame s u where
  now := k.now.trans h.now
  secondsDue := k.secondsDue.trans h.secondsDue
  loader := k.loader.trans h.loader
  meas := k.meas.trans h.meas
  zmeas := k.zmeas.trans h.zmeas
  fire := k.fire.trans h.fire
  peers := k.peers.trans h.peers
  startUntil := k.startUntil.trans h.startUntil
  pending := k.pending.trans h.pending
  counters := k.counters.trans h.counters
  dischargedTotal := k.dischargedTotal.trans h.dischargedTotal
  shreddedTotal := k.shreddedTotal.trans h.shreddedTotal
  records := sameFigures_list_trans h.records k.records
  queue := k.queue.trans h.queue
  remoteFire := k.remoteFire.trans h.remoteFire
  remoteThermal := k.remoteThermal.trans h.remoteThermal
  statusPending := k.statusPending.trans h.statusPending
  statusDueAt := k.statusDueAt.trans h.statusDueAt
  watchUntil := k.watchUntil.trans h.watchUntil
  blocked := k.blocked.trans h.blocked
  replies := k.replies.trans h.replies
  backoffUntil := k.backoffUntil.trans h.backoffUntil
  sequence := k.sequence.trans h.sequence

/-! ### Updates that reactions make -/

theorem frame_updBay (s : State) (b : BayIdx) (f : Bay → Bay) : ReactionFrame s (updBay s b f) := by
  constructor <;> first | rfl | exact sameFigures_list_refl _

theorem frame_updHandover (s : State) (b : BayIdx) (f : Handover → Handover) : ReactionFrame s (updHandover s b f) := by
  constructor <;> first | rfl | exact sameFigures_list_refl _

theorem frame_updZone (s : State) (f : Zone → Zone) (h : (f s.zone).queue = s.zone.queue) : ReactionFrame s (updZone s f) := by
  constructor <;> first | rfl | exact sameFigures_list_refl _ | exact h

theorem frame_updCauses (s : State) (f : Causes → Causes) (h : (f s.causes).remoteFire = s.causes.remoteFire)
    (k : (f s.causes).remoteThermal = s.causes.remoteThermal) : ReactionFrame s (updCauses s f) := by
  constructor <;> first | rfl | exact sameFigures_list_refl _ | exact h | exact k

theorem frame_updRow (s : State) (r : Row) (f : RowState → RowState) : ReactionFrame s (updRow s r f) :=
  frame_updCauses s _ rfl rfl

theorem frame_freeIndex (s : State) (n : Nat) : ReactionFrame s { s with freeIndex := n } := by
  constructor <;> first | rfl | exact sameFigures_list_refl _

theorem frame_timers (s : State) (ts : Vector Timer 16) : ReactionFrame s { s with timers := ts } := by
  constructor <;> first | rfl | exact sameFigures_list_refl _

theorem frame_updRecordOfBay (s : State) (b : BayIdx) (f : PackRecord → PackRecord) (h : ∀ r, SameFigures r (f r)) :
    ReactionFrame s (updRecordOfBay s b f) := by
  constructor <;> first | rfl | exact sameFigures_modifyFirst _ _ _ fun r _ => h r

theorem frame_queueHandover (s : State) (d : Addr) (x : HandoverBody) : ReactionFrame s (queueHandover s d x) := by
  unfold queueHandover
  split
  · constructor <;> first | rfl | exact sameFigures_list_refl _
  · exact ReactionFrame.refl s

theorem frame_dropOffer (s : State) (b : BayIdx) : ReactionFrame s (dropOffer s b) := by
  constructor <;> first | rfl | exact sameFigures_list_refl _

theorem frame_queueTrip (s : State) (c : TripClass) (x : Sections) : ReactionFrame s (queueTrip s c x) := by
  cases c <;> (constructor <;> first | rfl | exact sameFigures_list_refl _)

/-! ### Bays -/

theorem frame_coilOff (s : State) (b : BayIdx) : ReactionFrame s (coilOff s b) := by
  unfold coilOff; split
  · exact frame_updBay _ _ _
  · exact ReactionFrame.refl s

theorem frame_abandonOffer (s : State) (b : BayIdx) : ReactionFrame s (abandonOffer s b) :=
  (frame_updHandover _ _ _).trans (frame_dropOffer _ _)

theorem frame_abandonIfOffering (s : State) (b : BayIdx) : ReactionFrame s (abandonIfOffering s b) := by
  unfold abandonIfOffering; split
  · exact frame_abandonOffer _ _
  · exact ReactionFrame.refl s

theorem frame_releaseReservation (s : State) (b : BayIdx) : ReactionFrame s (releaseReservation s b) := by
  unfold releaseReservation
  split
  · exact ReactionFrame.refl s
  · refine ReactionFrame.trans ?_ (frame_updRecordOfBay _ _ _ fun r => by constructor <;> simp)
    split
    · split
      · exact frame_updHandover _ _ _
      · exact frame_queueHandover _ _ _
    · exact ReactionFrame.refl s

theorem frame_enterQuarantine (s : State) (b : BayIdx) (q : QuarantineReason) : ReactionFrame s (enterQuarantine s b q) := by
  unfold enterQuarantine
  refine ((frame_coilOff s b).trans (frame_abandonIfOffering _ b)).trans (ReactionFrame.trans ?_ (frame_updBay _ _ _))
  split
  · exact frame_releaseReservation _ _
  · exact ReactionFrame.refl _

theorem frame_thermalQuarantine (s : State) (b : BayIdx) : ReactionFrame s (thermalQuarantine s b) := by
  have mark : ReactionFrame s (updRecordOfBay s b fun r => { r with thermal := true }) :=
    frame_updRecordOfBay _ _ _ fun r => by constructor <;> simp
  unfold thermalQuarantine
  dsimp only
  split
  · exact mark.trans (frame_enterQuarantine _ _ _)
  · split
    · exact mark
    · exact ReactionFrame.refl s

theorem frame_enterConnecting (s : State) (b : BayIdx) : ReactionFrame s (enterConnecting s b) := frame_updBay _ _ _

theorem frame_enterHeld (s : State) (b : BayIdx) (r : ReturnState) : ReactionFrame s (enterHeld s b r) :=
  (frame_coilOff s b).trans (frame_updBay _ _ _)

theorem frame_loseVerification (s : State) (b : BayIdx) : ReactionFrame s (loseVerification s b) :=
  (frame_abandonIfOffering s b).trans (frame_updRecordOfBay _ _ _ fun r => by constructor <;> simp)

theorem frame_rebound (s : State) (b : BayIdx) : ReactionFrame s (rebound s b) := by
  unfold rebound
  dsimp only
  split
  · refine ReactionFrame.trans (frame_updRecordOfBay s b (fun r => { r with rebounds := r.rebounds + 1 })
      fun r => by constructor <;> simp) ?_
    split
    · exact frame_enterConnecting _ _
    · exact frame_enterHeld _ _ _
  · exact frame_enterQuarantine _ _ _

theorem frame_enterResting (s : State) (b : BayIdx) : ReactionFrame s (enterResting s b) := by
  unfold enterResting
  dsimp only
  split
  · exact ((frame_coilOff s b).trans (frame_updBay _ b _)).trans (frame_rebound _ _)
  · exact (frame_coilOff s b).trans (frame_updBay _ b _)

theorem frame_armEnd (s : State) (b : BayIdx) : ReactionFrame s (armEnd s b) := by
  unfold armEnd; split
  · exact frame_updBay _ _ _
  · exact ReactionFrame.refl s

theorem frame_enterDischarging (s : State) (b : BayIdx) : ReactionFrame s (enterDischarging s b) := by
  unfold enterDischarging
  dsimp only
  split
  · exact ((frame_updBay s b _).trans (frame_armEnd _ b)).trans (frame_enterResting _ _)
  · exact (frame_updBay s b _).trans (frame_armEnd _ b)

theorem frame_holdBay (s : State) (b : BayIdx) : ReactionFrame s (holdBay s b) := by
  unfold holdBay
  split
  all_goals first
    | exact frame_enterHeld _ _ _
    | exact (frame_loseVerification s b).trans (frame_enterHeld _ _ _)
    | exact ReactionFrame.refl s

theorem frame_lateRebound (s : State) (b : BayIdx) : ReactionFrame s (lateRebound s b) :=
  (frame_loseVerification s b).trans (frame_rebound _ _)

theorem frame_ownReaction {s t : State} {b : BayIdx} (h : ownReaction s b = some t) : ReactionFrame s t := by
  unfold ownReaction at h
  split at h
  · split at h <;> cases h; exact frame_enterDischarging _ _
  · split at h <;> cases h; exact frame_enterResting _ _
  · split at h <;> cases h; exact frame_rebound _ _
  all_goals cases h

theorem frame_takeChoice (s : State) : ReactionFrame s (takeChoice s).2 := frame_freeIndex s _

theorem frame_holdOrReact (s : State) (b : BayIdx) : ReactionFrame s (holdOrReact s b) := by
  unfold holdOrReact
  split
  · exact frame_holdBay _ _
  · dsimp only
    refine (frame_takeChoice s).trans ?_
    split
    · split
      · split
        · exact (frame_ownReaction ‹_›).trans (frame_holdBay _ _)
        · exact frame_ownReaction ‹_›
      · exact frame_holdBay _ _
    · exact frame_holdBay _ _

theorem frame_obeyBay (s : State) (b : BayIdx) : ReactionFrame s (obeyBay s b) := by
  unfold obeyBay; split
  · exact frame_holdOrReact _ _
  · exact ReactionFrame.refl s

theorem frame_backToSafe (s : State) (b : BayIdx) : ReactionFrame s (backToSafe s b) := frame_updBay _ _ _

theorem frame_enterReleasing (s : State) (b : BayIdx) (d : Addr) : ReactionFrame s (enterReleasing s b d) := by
  unfold enterReleasing
  dsimp only
  exact (frame_updRecordOfBay s b _ fun r => by constructor <;> simp).trans (frame_updBay _ b _)

theorem frame_internalOffer (s : State) (b : BayIdx) (r : PackRecord) : ReactionFrame s (internalOffer s b r) := by
  unfold internalOffer
  split
  · exact (frame_updHandover s b _).trans (frame_enterReleasing _ _ _)
  · exact (frame_backToSafe s b).trans (frame_updHandover _ _ _)

theorem frame_offerIfReady {s t : State} {b : BayIdx} (h : offerIfReady s b = some t) : ReactionFrame s t := by
  unfold offerIfReady at h
  split at h
  · cases h
  · dsimp only at h
    split at h
    · split at h <;> cases h
      · exact frame_internalOffer _ _ _
      · exact ((frame_queueHandover s _ _).trans (frame_updHandover _ b _)).trans (frame_updBay _ _ _)
    · cases h

theorem frame_bayReact {s t : State} {b : BayIdx} (h : bayReact s b = some t) : ReactionFrame s t := by
  unfold bayReact at h
  split at h
  · split at h
    · cases h; exact frame_holdOrReact _ _
    · exact frame_ownReaction h
  · split at h
    · cases h; exact frame_holdOrReact _ _
    · exact frame_ownReaction h
  · exact frame_ownReaction h
  · split at h
    · cases h
    · split at h
      · split at h
        · cases h; exact frame_enterConnecting _ _
        · cases h
      · cases h; exact frame_enterResting _ _
      · cases h; exact frame_enterResting _ _
      · cases h
  · exact frame_offerIfReady h
  all_goals cases h

/-! ### Zone -/

theorem frame_enterAir (s : State) : ReactionFrame s (enterAir s) :=
  ((frame_updZone s _ rfl).trans (frame_updZone _ _ rfl)).trans (frame_updZone _ _ rfl)

theorem frame_enterPurging (s : State) : ReactionFrame s (enterPurging s) :=
  ((frame_updZone s _ rfl).trans (frame_updZone _ _ rfl)).trans (frame_updZone _ _ rfl)

theorem frame_enterInert (s : State) : ReactionFrame s (enterInert s) :=
  ((frame_updZone s _ rfl).trans (frame_updZone _ _ rfl)).trans (frame_updZone _ _ rfl)

theorem frame_enterReady (s : State) : ReactionFrame s (enterReady s) := (frame_updZone s _ rfl).trans (frame_updZone _ _ rfl)

theorem frame_enterRunning (s : State) : ReactionFrame s (enterRunning s) := by
  unfold enterRunning setZone; exact frame_updZone s _ rfl

theorem frame_enterAlarm (s : State) : ReactionFrame s (enterAlarm s) := by
  unfold enterAlarm stopAtmosphere setZone; exact (frame_updZone s _ rfl).trans (frame_updZone _ _ rfl)

theorem frame_enterLockout (s : State) : ReactionFrame s (enterLockout s) :=
  ((frame_updZone s _ rfl).trans (frame_updZone _ _ rfl)).trans (frame_updZone _ _ rfl)

theorem frame_enterFire (s : State) : ReactionFrame s (enterFire s) := by
  unfold enterFire; split
  · exact ((frame_updZone s _ rfl).trans (frame_updZone _ _ rfl)).trans (frame_updZone _ _ rfl)
  · exact ReactionFrame.refl s

theorem frame_obeyZone (s : State) : ReactionFrame s (obeyZone s) := by
  unfold obeyZone; split
  · exact frame_enterAlarm _
  · split
    · exact frame_enterReady _
    · exact ReactionFrame.refl s

theorem frame_zoneReact {s t : State} (h : zoneReact s = some t) : ReactionFrame s t := by
  unfold zoneReact leaveFire at h
  split at h
  · cases h
  · split at h <;> (try split at h) <;> cases h
    · split
      · exact frame_enterLockout _
      · exact frame_enterAir _
    · exact frame_enterInert _
    · exact frame_enterPurging _
    · exact frame_enterReady _
    · exact frame_enterPurging _

/-- A feed starts only on a head whose record is WAITING. -/
theorem frame_feedReact {s t : State} (h : feedReact s = some t) : ReactionFrame s t := by
  unfold feedReact at h
  split at h
  · rename_i hp
    cases h
    unfold startFeed
    split
    · exact ReactionFrame.refl s
    · rename_i id rest hq
      have hw : headWaiting s = true := by
        unfold feedPermit at hp; simp only [Bool.and_eq_true] at hp; exact hp.1.2
      have hs : slotStage s id = some .waiting := by
        unfold headWaiting at hw; rw [hq] at hw; simp only [Bool.and_eq_true, decide_eq_true_eq] at hw; exact hw.1
      refine ReactionFrame.trans (t := updRecordOfId s id (toStage s .feeding)) ?_ (frame_updZone _ _ rfl)
      constructor
      case records =>
        have : ∀ l : List PackRecord, (l.find? (hasId id)).map PackRecord.stage = some .waiting →
            List.Forall₂ SameFigures l (modifyFirst (hasId id) (toStage s .feeding) l) := by
          intro l
          induction l with
          | nil => intro; exact .nil
          | cons x xs ih =>
            intro h
            unfold modifyFirst
            by_cases hx : hasId id x = true
            · simp only [List.find?_cons, hx, Option.map_some, Option.some.injEq] at h
              simp only [hx, if_true]
              exact .cons (by constructor <;> simp [toStage, h]) (sameFigures_list_refl xs)
            · simp only [Bool.not_eq_true] at hx
              simp only [List.find?_cons, hx] at h
              simp only [hx]
              exact .cons (SameFigures.refl x) (ih h)
        exact this _ hs
      all_goals rfl
  · cases h

/-! ### Rows -/

theorem frame_tripOnRaise (s : State) (r : Row) : ReactionFrame s (tripOnRaise s r) := by
  unfold tripOnRaise
  split <;> first | exact frame_queueTrip _ _ _ | exact ReactionFrame.refl s

theorem frame_raiseRow (s : State) (r : Row) : ReactionFrame s (raiseRow s r) := by
  unfold raiseRow
  dsimp only
  exact ((frame_updCauses s _ rfl rfl).trans (frame_updRow _ r _)).trans (frame_tripOnRaise _ r)

theorem frame_closeEntry (s : State) (r : Row) : ReactionFrame s (closeEntry s r) := frame_updCauses _ _ rfl rfl

/-- The rows that are lowered without a RESET are not the remote ones. -/
theorem frame_lowerRow (s : State) (r : Row) (h : latched r = false) : ReactionFrame s (lowerRow s r) := by
  have base : ReactionFrame s (lowerRow s r) ∨ r = .fd5 ∨ r = .th3 := by
    unfold lowerRow clearRemote
    dsimp only
    split
    · exact .inr (.inl rfl)
    · exact .inr (.inr rfl)
    · exact .inl ((frame_closeEntry s _).trans (frame_updRow _ r _))
  rcases base with h' | rfl | rfl
  · exact h'
  · cases h
  · cases h

theorem frame_handCondition (s : State) (r : Row) (c : Bool) : ReactionFrame s (handCondition s r c) := by
  unfold handCondition
  split
  · split
    · exact frame_updRow _ _ _
    · exact frame_raiseRow _ _
  · split
    · exact frame_updRow _ _ _
    · rename_i hl; exact frame_lowerRow _ _ (Bool.eq_false_of_not_eq_true hl)

theorem frame_pulseRow (s : State) (r : Row) : ReactionFrame s (pulseRow s r) := by
  unfold pulseRow
  split
  · exact frame_updRow _ _ _
  · exact (frame_raiseRow _ _).trans (frame_updRow _ _ _)

theorem frame_onRaise (s : State) (r : Row) : ReactionFrame s (onRaise s r) := by
  unfold onRaise
  split <;> first | exact frame_enterFire _ | exact frame_thermalQuarantine _ _ | exact ReactionFrame.refl s

theorem frame_foldl {α : Type} (l : List α) (f : State → α → State) (h : ∀ s a, ReactionFrame s (f s a)) (s : State) :
    ReactionFrame s (l.foldl f s) := by
  induction l generalizing s with
  | nil => exact ReactionFrame.refl s
  | cons a l ih => exact (h s a).trans (ih (f s a))

theorem frame_obeyRows (s : State) : ReactionFrame s (obeyRows s) :=
  (frame_obeyZone s).trans (frame_foldl _ _ frame_obeyBay _)

theorem frame_handConditions {s t : State} (h : handConditions s = some t) : ReactionFrame s t := by
  unfold handConditions at h
  dsimp only at h
  split at h
  · exact absurd h (by simp)
  · obtain rfl := Option.some.inj h
    exact ((frame_foldl _ _ (fun u r => frame_handCondition u r _) s).trans (frame_foldl _ _ frame_onRaise _)).trans
      (frame_obeyRows _)

/-! ### All reactions -/

theorem frame_timersReact {s t : State} {before : Vector Timer 16} (h : timersReact before s = some t) : ReactionFrame s t := by
  unfold timersReact at h
  dsimp only at h
  split at h <;> cases h
  exact frame_timers _ _

/-- The next reaction of an event is one of the five kinds. -/
theorem react_cases {before : Vector Timer 16} {s t : State} (h : react before s = some t) :
    handConditions s = some t ∨ timersReact before s = some t ∨ zoneReact s = some t ∨ (∃ b, bayReact s b = some t) ∨
      feedReact s = some t := by
  unfold react at h
  simp only [Option.or_eq_some_iff] at h
  rcases h with h | ⟨-, h | ⟨-, h | ⟨-, h | ⟨-, h⟩⟩⟩⟩
  · exact .inl h
  · exact .inr (.inl h)
  · exact .inr (.inr (.inl h))
  · obtain ⟨b, -, hb⟩ := List.exists_of_findSome?_eq_some h
    exact .inr (.inr (.inr (.inl ⟨b, hb⟩)))
  · exact .inr (.inr (.inr (.inr h)))

/-- An event is over exactly when no condition has changed, no dwell timer has to move, and neither zone, bay nor feed has a reaction. -/
theorem react_eq_none (before : Vector Timer 16) (s : State) :
    react before s = none ↔
      handConditions s = none ∧ timersAfter s before = s.timers ∧ zoneReact s = none ∧ (∀ b, bayReact s b = none) ∧
        feedReact s = none := by
  have bays : allBays.findSome? (bayReact s) = none ↔ ∀ b, bayReact s b = none := by
    rw [List.findSome?_eq_none_iff]
    exact ⟨fun h b => h b (by fin_cases b <;> decide), fun h b _ => h b⟩
  have moved : timersReact before s = none ↔ timersAfter s before = s.timers := by
    simp [timersReact]
  rw [← bays, ← moved]
  simp [react]

theorem frame_react {before : Vector Timer 16} {s t : State} (h : react before s = some t) : ReactionFrame s t := by
  rcases react_cases h with h | h | h | ⟨b, h⟩ | h
  · exact frame_handConditions h
  · exact frame_timersReact h
  · exact frame_zoneReact h
  · exact frame_bayReact h
  · exact frame_feedReact h

/-- A property kept by the giving way to the rows and by each reaction is kept by all the reactions of an event. -/
theorem settle_induction {P : State → Prop} (s : State) (h0 : P (obeyRows s))
    (step : ∀ u v, P u → react s.timers u = some v → P v) : P (settle s) := by
  unfold settle
  generalize reactionLimit = n
  generalize obeyRows s = u at h0
  induction n generalizing u with
  | zero => exact h0
  | succ n ih =>
    unfold reactions
    split
    · exact ih _ (step _ _ h0 ‹_›)
    · exact h0

theorem frame_settle (s : State) : ReactionFrame s (settle s) :=
  settle_induction (P := ReactionFrame s) s (frame_obeyRows s) fun _ _ h k => h.trans (frame_react k)

end Sys2Proof.Machine
end

