-- ==== Sys2Proof/Laws/Bay.lean ====
section
/-! SUPPORT. What the transitions of a bay leave alone of the zone, the cause table and the dwell timers. -/

namespace Sys2Proof.Machine

variable (s : State)

@[simp] theorem coilOff_zone (b : BayIdx) : (coilOff s b).zone = s.zone := by
  unfold coilOff; repeat (first | dsimp only | split | simp)
@[simp] theorem coilOff_causes (b : BayIdx) : (coilOff s b).causes = s.causes := by
  unfold coilOff; repeat (first | dsimp only | split | simp)
@[simp] theorem coilOff_timers (b : BayIdx) : (coilOff s b).timers = s.timers := by
  unfold coilOff; repeat (first | dsimp only | split | simp)

@[simp] theorem abandonOffer_zone (b : BayIdx) : (abandonOffer s b).zone = s.zone := by
  unfold abandonOffer; repeat (first | dsimp only | split | simp)
@[simp] theorem abandonOffer_causes (b : BayIdx) : (abandonOffer s b).causes = s.causes := by
  unfold abandonOffer; repeat (first | dsimp only | split | simp)
@[simp] theorem abandonOffer_timers (b : BayIdx) : (abandonOffer s b).timers = s.timers := by
  unfold abandonOffer; repeat (first | dsimp only | split | simp)

@[simp] theorem abandonIfOffering_zone (b : BayIdx) : (abandonIfOffering s b).zone = s.zone := by
  unfold abandonIfOffering; repeat (first | dsimp only | split | simp)
@[simp] theorem abandonIfOffering_causes (b : BayIdx) : (abandonIfOffering s b).causes = s.causes := by
  unfold abandonIfOffering; repeat (first | dsimp only | split | simp)
@[simp] theorem abandonIfOffering_timers (b : BayIdx) : (abandonIfOffering s b).timers = s.timers := by
  unfold abandonIfOffering; repeat (first | dsimp only | split | simp)

@[simp] theorem releaseReservation_zone (b : BayIdx) : (releaseReservation s b).zone = s.zone := by
  unfold releaseReservation; repeat (first | dsimp only | split | simp)
@[simp] theorem releaseReservation_causes (b : BayIdx) : (releaseReservation s b).causes = s.causes := by
  unfold releaseReservation; repeat (first | dsimp only | split | simp)
@[simp] theorem releaseReservation_timers (b : BayIdx) : (releaseReservation s b).timers = s.timers := by
  unfold releaseReservation; repeat (first | dsimp only | split | simp)

@[simp] theorem enterQuarantine_zone (b : BayIdx) (q : QuarantineReason) : (enterQuarantine s b q).zone = s.zone := by
  unfold enterQuarantine; repeat (first | dsimp only | split | simp)
@[simp] theorem enterQuarantine_causes (b : BayIdx) (q : QuarantineReason) : (enterQuarantine s b q).causes = s.causes := by
  unfold enterQuarantine; repeat (first | dsimp only | split | simp)
@[simp] theorem enterQuarantine_timers (b : BayIdx) (q : QuarantineReason) : (enterQuarantine s b q).timers = s.timers := by
  unfold enterQuarantine; repeat (first | dsimp only | split | simp)

@[simp] theorem thermalQuarantine_zone (b : BayIdx) : (thermalQuarantine s b).zone = s.zone := by
  unfold thermalQuarantine; repeat (first | dsimp only | split | simp)
@[simp] theorem thermalQuarantine_causes (b : BayIdx) : (thermalQuarantine s b).causes = s.causes := by
  unfold thermalQuarantine; repeat (first | dsimp only | split | simp)
@[simp] theorem thermalQuarantine_timers (b : BayIdx) : (thermalQuarantine s b).timers = s.timers := by
  unfold thermalQuarantine; repeat (first | dsimp only | split | simp)

@[simp] theorem enterConnecting_zone (b : BayIdx) : (enterConnecting s b).zone = s.zone := by
  unfold enterConnecting; repeat (first | dsimp only | split | simp)
@[simp] theorem enterConnecting_causes (b : BayIdx) : (enterConnecting s b).causes = s.causes := by
  unfold enterConnecting; repeat (first | dsimp only | split | simp)
@[simp] theorem enterConnecting_timers (b : BayIdx) : (enterConnecting s b).timers = s.timers := by
  unfold enterConnecting; repeat (first | dsimp only | split | simp)

@[simp] theorem enterHeld_zone (b : BayIdx) (r : ReturnState) : (enterHeld s b r).zone = s.zone := by
  unfold enterHeld; repeat (first | dsimp only | split | simp)
@[simp] theorem enterHeld_causes (b : BayIdx) (r : ReturnState) : (enterHeld s b r).causes = s.causes := by
  unfold enterHeld; repeat (first | dsimp only | split | simp)
@[simp] theorem enterHeld_timers (b : BayIdx) (r : ReturnState) : (enterHeld s b r).timers = s.timers := by
  unfold enterHeld; repeat (first | dsimp only | split | simp)

@[simp] theorem loseVerification_zone (b : BayIdx) : (loseVerification s b).zone = s.zone := by
  unfold loseVerification; repeat (first | dsimp only | split | simp)
@[simp] theorem loseVerification_causes (b : BayIdx) : (loseVerification s b).causes = s.causes := by
  unfold loseVerification; repeat (first | dsimp only | split | simp)
@[simp] theorem loseVerification_timers (b : BayIdx) : (loseVerification s b).timers = s.timers := by
  unfold loseVerification; repeat (first | dsimp only | split | simp)

@[simp] theorem rebound_zone (b : BayIdx) : (rebound s b).zone = s.zone := by
  unfold rebound; repeat (first | dsimp only | split | simp)
@[simp] theorem rebound_causes (b : BayIdx) : (rebound s b).causes = s.causes := by
  unfold rebound; repeat (first | dsimp only | split | simp)
@[simp] theorem rebound_timers (b : BayIdx) : (rebound s b).timers = s.timers := by
  unfold rebound; repeat (first | dsimp only | split | simp)

@[simp] theorem enterResting_zone (b : BayIdx) : (enterResting s b).zone = s.zone := by
  unfold enterResting; repeat (first | dsimp only | split | simp)
@[simp] theorem enterResting_causes (b : BayIdx) : (enterResting s b).causes = s.causes := by
  unfold enterResting; repeat (first | dsimp only | split | simp)
@[simp] theorem enterResting_timers (b : BayIdx) : (enterResting s b).timers = s.timers := by
  unfold enterResting; repeat (first | dsimp only | split | simp)

@[simp] theorem armEnd_zone (b : BayIdx) : (armEnd s b).zone = s.zone := by
  unfold armEnd; repeat (first | dsimp only | split | simp)
@[simp] theorem armEnd_causes (b : BayIdx) : (armEnd s b).causes = s.causes := by
  unfold armEnd; repeat (first | dsimp only | split | simp)
@[simp] theorem armEnd_timers (b : BayIdx) : (armEnd s b).timers = s.timers := by
  unfold armEnd; repeat (first | dsimp only | split | simp)

@[simp] theorem enterDischarging_zone (b : BayIdx) : (enterDischarging s b).zone = s.zone := by
  unfold enterDischarging; repeat (first | dsimp only | split | simp)
@[simp] theorem enterDischarging_causes (b : BayIdx) : (enterDischarging s b).causes = s.causes := by
  unfold enterDischarging; repeat (first | dsimp only | split | simp)
@[simp] theorem enterDischarging_timers (b : BayIdx) : (enterDischarging s b).timers = s.timers := by
  unfold enterDischarging; repeat (first | dsimp only | split | simp)

@[simp] theorem holdBay_zone (b : BayIdx) : (holdBay s b).zone = s.zone := by
  unfold holdBay; repeat (first | dsimp only | split | simp)
@[simp] theorem holdBay_causes (b : BayIdx) : (holdBay s b).causes = s.causes := by
  unfold holdBay; repeat (first | dsimp only | split | simp)
@[simp] theorem holdBay_timers (b : BayIdx) : (holdBay s b).timers = s.timers := by
  unfold holdBay; repeat (first | dsimp only | split | simp)

@[simp] theorem lateRebound_zone (b : BayIdx) : (lateRebound s b).zone = s.zone := by
  unfold lateRebound; repeat (first | dsimp only | split | simp)
@[simp] theorem lateRebound_causes (b : BayIdx) : (lateRebound s b).causes = s.causes := by
  unfold lateRebound; repeat (first | dsimp only | split | simp)
@[simp] theorem lateRebound_timers (b : BayIdx) : (lateRebound s b).timers = s.timers := by
  unfold lateRebound; repeat (first | dsimp only | split | simp)

@[simp] theorem takeChoice_zone : (takeChoice s).2.zone = s.zone := rfl
@[simp] theorem takeChoice_causes : (takeChoice s).2.causes = s.causes := rfl
@[simp] theorem takeChoice_timers : (takeChoice s).2.timers = s.timers := rfl

theorem ownReaction_zone {s t : State} {b : BayIdx} (h : ownReaction s b = some t) : t.zone = s.zone := by
  unfold ownReaction at h
  split at h <;> (try split at h) <;> cases h <;> simp
theorem ownReaction_causes {s t : State} {b : BayIdx} (h : ownReaction s b = some t) : t.causes = s.causes := by
  unfold ownReaction at h
  split at h <;> (try split at h) <;> cases h <;> simp
theorem ownReaction_timers {s t : State} {b : BayIdx} (h : ownReaction s b = some t) : t.timers = s.timers := by
  unfold ownReaction at h
  split at h <;> (try split at h) <;> cases h <;> simp
@[simp] theorem holdOrReact_zone (b : BayIdx) : (holdOrReact s b).zone = s.zone := by
  unfold holdOrReact
  split
  · simp
  · dsimp only
    split
    · split
      · rename_i h
        split <;> simp [ownReaction_zone h]
      · simp
    · simp
@[simp] theorem holdOrReact_causes (b : BayIdx) : (holdOrReact s b).causes = s.causes := by
  unfold holdOrReact
  split
  · simp
  · dsimp only
    split
    · split
      · rename_i h
        split <;> simp [ownReaction_causes h]
      · simp
    · simp
@[simp] theorem holdOrReact_timers (b : BayIdx) : (holdOrReact s b).timers = s.timers := by
  unfold holdOrReact
  split
  · simp
  · dsimp only
    split
    · split
      · rename_i h
        split <;> simp [ownReaction_timers h]
      · simp
    · simp

@[simp] theorem obeyBay_zone (b : BayIdx) : (obeyBay s b).zone = s.zone := by
  unfold obeyBay; repeat (first | dsimp only | split | simp)
@[simp] theorem obeyBay_causes (b : BayIdx) : (obeyBay s b).causes = s.causes := by
  unfold obeyBay; repeat (first | dsimp only | split | simp)
@[simp] theorem obeyBay_timers (b : BayIdx) : (obeyBay s b).timers = s.timers := by
  unfold obeyBay; repeat (first | dsimp only | split | simp)

@[simp] theorem backToSafe_zone (b : BayIdx) : (backToSafe s b).zone = s.zone := by
  unfold backToSafe; repeat (first | dsimp only | split | simp)
@[simp] theorem backToSafe_causes (b : BayIdx) : (backToSafe s b).causes = s.causes := by
  unfold backToSafe; repeat (first | dsimp only | split | simp)
@[simp] theorem backToSafe_timers (b : BayIdx) : (backToSafe s b).timers = s.timers := by
  unfold backToSafe; repeat (first | dsimp only | split | simp)

@[simp] theorem enterReleasing_zone (b : BayIdx) (d : Addr) : (enterReleasing s b d).zone = s.zone := by
  unfold enterReleasing; repeat (first | dsimp only | split | simp)
@[simp] theorem enterReleasing_causes (b : BayIdx) (d : Addr) : (enterReleasing s b d).causes = s.causes := by
  unfold enterReleasing; repeat (first | dsimp only | split | simp)
@[simp] theorem enterReleasing_timers (b : BayIdx) (d : Addr) : (enterReleasing s b d).timers = s.timers := by
  unfold enterReleasing; repeat (first | dsimp only | split | simp)

@[simp] theorem internalOffer_zone (b : BayIdx) (r : PackRecord) : (internalOffer s b r).zone = s.zone := by
  unfold internalOffer; repeat (first | dsimp only | split | simp)
@[simp] theorem internalOffer_causes (b : BayIdx) (r : PackRecord) : (internalOffer s b r).causes = s.causes := by
  unfold internalOffer; repeat (first | dsimp only | split | simp)
@[simp] theorem internalOffer_timers (b : BayIdx) (r : PackRecord) : (internalOffer s b r).timers = s.timers := by
  unfold internalOffer; repeat (first | dsimp only | split | simp)

theorem offerIfReady_zone {s t : State} {b : BayIdx} (h : offerIfReady s b = some t) : t.zone = s.zone := by
  unfold offerIfReady at h
  split at h
  · cases h
  · dsimp only at h
    split at h
    · split at h <;> cases h <;> simp
    · cases h

theorem bayReact_zone {s t : State} {b : BayIdx} (h : bayReact s b = some t) : t.zone = s.zone := by
  unfold bayReact at h
  split at h
  · split at h
    · cases h; simp
    · exact ownReaction_zone h
  · split at h
    · cases h; simp
    · exact ownReaction_zone h
  · exact ownReaction_zone h
  · split at h
    · cases h
    · (repeat' split at h) <;> cases h <;> simp
  · exact offerIfReady_zone h
  all_goals cases h

theorem offerIfReady_causes {s t : State} {b : BayIdx} (h : offerIfReady s b = some t) : t.causes = s.causes := by
  unfold offerIfReady at h
  split at h
  · cases h
  · dsimp only at h
    split at h
    · split at h <;> cases h <;> simp
    · cases h

theorem bayReact_causes {s t : State} {b : BayIdx} (h : bayReact s b = some t) : t.causes = s.causes := by
  unfold bayReact at h
  split at h
  · split at h
    · cases h; simp
    · exact ownReaction_causes h
  · split at h
    · cases h; simp
    · exact ownReaction_causes h
  · exact ownReaction_causes h
  · split at h
    · cases h
    · (repeat' split at h) <;> cases h <;> simp
  · exact offerIfReady_causes h
  all_goals cases h

theorem offerIfReady_timers {s t : State} {b : BayIdx} (h : offerIfReady s b = some t) : t.timers = s.timers := by
  unfold offerIfReady at h
  split at h
  · cases h
  · dsimp only at h
    split at h
    · split at h <;> cases h <;> simp
    · cases h

theorem bayReact_timers {s t : State} {b : BayIdx} (h : bayReact s b = some t) : t.timers = s.timers := by
  unfold bayReact at h
  split at h
  · split at h
    · cases h; simp
    · exact ownReaction_timers h
  · split at h
    · cases h; simp
    · exact ownReaction_timers h
  · exact ownReaction_timers h
  · split at h
    · cases h
    · (repeat' split at h) <;> cases h <;> simp
  · exact offerIfReady_timers h
  all_goals cases h

end Sys2Proof.Machine
end

