-- ==== Sys2Proof/Laws/Causes.lean ====
section
/-! SUPPORT. What the cause table leaves alone of the other blocks, the custody figures that reactions keep, and the invariants of the zone
across the reactions of an event. -/

namespace Sys2Proof.Machine

variable (s : State)

/-! ### Rows -/

@[simp] theorem tripOnRaise_zone (r : Row) : (tripOnRaise s r).zone = s.zone := by
  unfold tripOnRaise; repeat (first | dsimp only | split | simp)
@[simp] theorem tripOnRaise_bays (r : Row) : (tripOnRaise s r).bays = s.bays := by
  unfold tripOnRaise; repeat (first | dsimp only | split | simp)
@[simp] theorem tripOnRaise_packs (r : Row) : (tripOnRaise s r).packs = s.packs := by
  unfold tripOnRaise; repeat (first | dsimp only | split | simp)
@[simp] theorem tripOnRaise_handover (r : Row) : (tripOnRaise s r).handover = s.handover := by
  unfold tripOnRaise; repeat (first | dsimp only | split | simp)
@[simp] theorem tripOnRaise_timers (r : Row) : (tripOnRaise s r).timers = s.timers := by
  unfold tripOnRaise; repeat (first | dsimp only | split | simp)

@[simp] theorem clearRemote_zone (r : Row) : (clearRemote s r).zone = s.zone := by
  unfold clearRemote; repeat (first | dsimp only | split | simp)
@[simp] theorem clearRemote_bays (r : Row) : (clearRemote s r).bays = s.bays := by
  unfold clearRemote; repeat (first | dsimp only | split | simp)
@[simp] theorem clearRemote_packs (r : Row) : (clearRemote s r).packs = s.packs := by
  unfold clearRemote; repeat (first | dsimp only | split | simp)
@[simp] theorem clearRemote_handover (r : Row) : (clearRemote s r).handover = s.handover := by
  unfold clearRemote; repeat (first | dsimp only | split | simp)
@[simp] theorem clearRemote_timers (r : Row) : (clearRemote s r).timers = s.timers := by
  unfold clearRemote; repeat (first | dsimp only | split | simp)

@[simp] theorem closeEntry_zone (r : Row) : (closeEntry s r).zone = s.zone := by
  unfold closeEntry; repeat (first | dsimp only | split | simp)
@[simp] theorem closeEntry_bays (r : Row) : (closeEntry s r).bays = s.bays := by
  unfold closeEntry; repeat (first | dsimp only | split | simp)
@[simp] theorem closeEntry_packs (r : Row) : (closeEntry s r).packs = s.packs := by
  unfold closeEntry; repeat (first | dsimp only | split | simp)
@[simp] theorem closeEntry_handover (r : Row) : (closeEntry s r).handover = s.handover := by
  unfold closeEntry; repeat (first | dsimp only | split | simp)
@[simp] theorem closeEntry_timers (r : Row) : (closeEntry s r).timers = s.timers := by
  unfold closeEntry; repeat (first | dsimp only | split | simp)

@[simp] theorem raiseRow_zone (r : Row) : (raiseRow s r).zone = s.zone := by
  unfold raiseRow; repeat (first | dsimp only | split | simp)
@[simp] theorem raiseRow_bays (r : Row) : (raiseRow s r).bays = s.bays := by
  unfold raiseRow; repeat (first | dsimp only | split | simp)
@[simp] theorem raiseRow_packs (r : Row) : (raiseRow s r).packs = s.packs := by
  unfold raiseRow; repeat (first | dsimp only | split | simp)
@[simp] theorem raiseRow_handover (r : Row) : (raiseRow s r).handover = s.handover := by
  unfold raiseRow; repeat (first | dsimp only | split | simp)
@[simp] theorem raiseRow_timers (r : Row) : (raiseRow s r).timers = s.timers := by
  unfold raiseRow; repeat (first | dsimp only | split | simp)

@[simp] theorem lowerRow_zone (r : Row) : (lowerRow s r).zone = s.zone := by
  unfold lowerRow; repeat (first | dsimp only | split | simp)
@[simp] theorem lowerRow_bays (r : Row) : (lowerRow s r).bays = s.bays := by
  unfold lowerRow; repeat (first | dsimp only | split | simp)
@[simp] theorem lowerRow_packs (r : Row) : (lowerRow s r).packs = s.packs := by
  unfold lowerRow; repeat (first | dsimp only | split | simp)
@[simp] theorem lowerRow_handover (r : Row) : (lowerRow s r).handover = s.handover := by
  unfold lowerRow; repeat (first | dsimp only | split | simp)
@[simp] theorem lowerRow_timers (r : Row) : (lowerRow s r).timers = s.timers := by
  unfold lowerRow; repeat (first | dsimp only | split | simp)

@[simp] theorem handCondition_zone (r : Row) (c : Bool) : (handCondition s r c).zone = s.zone := by
  unfold handCondition; repeat (first | dsimp only | split | simp)
@[simp] theorem handCondition_bays (r : Row) (c : Bool) : (handCondition s r c).bays = s.bays := by
  unfold handCondition; repeat (first | dsimp only | split | simp)
@[simp] theorem handCondition_packs (r : Row) (c : Bool) : (handCondition s r c).packs = s.packs := by
  unfold handCondition; repeat (first | dsimp only | split | simp)
@[simp] theorem handCondition_handover (r : Row) (c : Bool) : (handCondition s r c).handover = s.handover := by
  unfold handCondition; repeat (first | dsimp only | split | simp)
@[simp] theorem handCondition_timers (r : Row) (c : Bool) : (handCondition s r c).timers = s.timers := by
  unfold handCondition; repeat (first | dsimp only | split | simp)

@[simp] theorem pulseRow_zone (r : Row) : (pulseRow s r).zone = s.zone := by
  unfold pulseRow; repeat (first | dsimp only | split | simp)
@[simp] theorem pulseRow_bays (r : Row) : (pulseRow s r).bays = s.bays := by
  unfold pulseRow; repeat (first | dsimp only | split | simp)
@[simp] theorem pulseRow_packs (r : Row) : (pulseRow s r).packs = s.packs := by
  unfold pulseRow; repeat (first | dsimp only | split | simp)
@[simp] theorem pulseRow_handover (r : Row) : (pulseRow s r).handover = s.handover := by
  unfold pulseRow; repeat (first | dsimp only | split | simp)
@[simp] theorem pulseRow_timers (r : Row) : (pulseRow s r).timers = s.timers := by
  unfold pulseRow; repeat (first | dsimp only | split | simp)

theorem foldl_handCondition_zone (l : List Row) (c : Row → Bool) :
    (l.foldl (fun u r => handCondition u r (c r)) s).zone = s.zone := by
  induction l generalizing s with
  | nil => rfl
  | cons r l ih => simp [ih]

theorem foldl_handCondition_bays (l : List Row) (c : Row → Bool) :
    (l.foldl (fun u r => handCondition u r (c r)) s).bays = s.bays := by
  induction l generalizing s with
  | nil => rfl
  | cons r l ih => simp [ih]

theorem foldl_handCondition_packs (l : List Row) (c : Row → Bool) :
    (l.foldl (fun u r => handCondition u r (c r)) s).packs = s.packs := by
  induction l generalizing s with
  | nil => rfl
  | cons r l ih => simp [ih]

theorem foldl_handCondition_handover (l : List Row) (c : Row → Bool) :
    (l.foldl (fun u r => handCondition u r (c r)) s).handover = s.handover := by
  induction l generalizing s with
  | nil => rfl
  | cons r l ih => simp [ih]

theorem foldl_handCondition_timers (l : List Row) (c : Row → Bool) :
    (l.foldl (fun u r => handCondition u r (c r)) s).timers = s.timers := by
  induction l generalizing s with
  | nil => rfl
  | cons r l ih => simp [ih]

/-! ### Custody figures under reactions -/

theorem sameFigures_reserved {r t : PackRecord} (h : SameFigures r t) : (t.stage = .reserved) ↔ (r.stage = .reserved) := by
  rcases h.stage with e | ⟨e, e'⟩
  · rw [e]
  · rw [e, e']; simp

/-- Reactions keep the number of records, their IDs in order, and how many are in custody. -/
theorem sameFigures_counts {a b : List PackRecord} (h : List.Forall₂ SameFigures a b) :
    b.length = a.length ∧ b.map PackRecord.id = a.map PackRecord.id ∧
      (b.filter fun r => decide (r.stage ≠ .reserved)).length = (a.filter fun r => decide (r.stage ≠ .reserved)).length := by
  induction h with
  | nil => simp
  | cons x _ ih =>
    obtain ⟨h1, h2, h3⟩ := ih
    refine ⟨by simp [h1], by simp [h2, x.id], ?_⟩
    have := sameFigures_reserved x
    simp only [List.filter_cons, ne_eq, decide_not, this]
    split <;> simpa using h3

theorem ReactionFrame.custodyCount {s t : State} (h : ReactionFrame s t) : custodyCount t = custodyCount s :=
  (sameFigures_counts h.records).2.2

/-- The balance of R61 holds after the reactions of an event exactly when it held before them. -/
theorem ReactionFrame.custodyBalanced {s t : State} (h : ReactionFrame s t) : CustodyBalanced t ↔ CustodyBalanced s := by
  unfold CustodyBalanced custodyLeft custodyRight
  rw [h.custodyCount, h.counters]

theorem ReactionFrame.tableSound {s t : State} (h : ReactionFrame s t) : TableSound t ↔ TableSound s := by
  obtain ⟨h1, h2, -⟩ := sameFigures_counts h.records
  have e : ∀ l : List PackRecord, l.filterMap PackRecord.id = (l.map PackRecord.id).filterMap fun x => x := by
    intro l; rw [List.filterMap_map]; rfl
  unfold TableSound
  rw [h1, e t.packs.records, e s.packs.records, h2]

/-! ### A RUNNING zone has no trip standing (R98) -/

theorem runsClear_congr {s t : State} (hz : t.zone.state = s.zone.state) (hc : t.causes = s.causes) (h : RunsClear s) : RunsClear t := by
  have e : chamberTripped t = chamberTripped s := by unfold chamberTripped fireRaised raised rowState; rw [hc]
  intro hr
  rw [e]
  exact h (hz ▸ hr)

theorem runsClear_of_not_running {s : State} (h : s.zone.state ≠ .running) : RunsClear s := fun k => absurd k h

theorem obeyZone_runsClear : RunsClear (obeyZone s) := by
  unfold obeyZone
  split
  · exact runsClear_of_not_running (by simp [enterAlarm, stopAtmosphere, setZone])
  · split
    · exact runsClear_of_not_running (by simp [enterReady, setZone])
    · intro hr
      rename_i h
      simpa [hr] using h

theorem foldl_obeyBay (l : List BayIdx) :
    (l.foldl obeyBay s).zone = s.zone ∧ (l.foldl obeyBay s).causes = s.causes ∧ (l.foldl obeyBay s).timers = s.timers := by
  induction l generalizing s with
  | nil => simp
  | cons b l ih => simpa using ih (obeyBay s b)

theorem obeyRows_runsClear : RunsClear (obeyRows s) := by
  obtain ⟨hz, hc, -⟩ := foldl_obeyBay (obeyZone s) allBays
  exact runsClear_congr (by rw [obeyRows, hz]) hc (obeyZone_runsClear s)

theorem zoneReact_not_running {s t : State} (h : zoneReact s = some t) : t.zone.state ≠ .running := by
  unfold zoneReact leaveFire at h
  split at h
  · cases h
  · split at h <;> (try split at h) <;> cases h
    · split <;> simp [enterLockout, enterAir, stopAtmosphere, setZone]
    all_goals simp [enterInert, enterPurging, enterReady, stopAtmosphere, setZone]

theorem feedReact_keeps {s t : State} (h : feedReact s = some t) :
    t.zone.state = s.zone.state ∧ t.causes = s.causes ∧ t.timers = s.timers ∧ s.zone.state = .running := by
  unfold feedReact at h
  split at h
  · rename_i hp
    cases h
    have hr : s.zone.state = .running := by
      unfold feedPermit at hp; simp only [Bool.and_eq_true, decide_eq_true_eq] at hp; exact hp.1.1.1.1.1.1.2
    unfold startFeed
    split <;> simp [hr]
  · cases h

/-- After the reactions of any event a RUNNING zone has no latched FIRE or ATMOSPHERE row raised. -/
theorem settle_runsClear : RunsClear (settle s) := by
  refine settle_induction s (obeyRows_runsClear s) fun u v hu h => ?_
  rcases react_cases h with h | h | h | ⟨b, h⟩ | h
  · unfold handConditions at h
    dsimp only at h
    split at h
    · exact absurd h (by simp)
    · obtain rfl := Option.some.inj h
      exact obeyRows_runsClear _
  · unfold timersReact at h
    dsimp only at h
    split at h <;> cases h
    exact runsClear_congr rfl rfl hu
  · exact runsClear_of_not_running (zoneReact_not_running h)
  · exact runsClear_congr (by rw [bayReact_zone h]) (bayReact_causes h) hu
  · obtain ⟨hz, hc, -, -⟩ := feedReact_keeps h
    exact runsClear_congr hz hc hu

/-! ### LOCKOUT stands (R104) -/

theorem lockedOut_congr {s t : State} (hz : t.zone = s.zone) (h : LockedOut s) : LockedOut t := by
  unfold LockedOut; rw [hz]; exact h

theorem obeyZone_lockout {s : State} (h : s.zone.state = .lockout) : obeyZone s = s := by
  unfold obeyZone zoneWorking
  simp [h]

theorem obeyRows_zone_of_lockout {s : State} (h : s.zone.state = .lockout) : (obeyRows s).zone = s.zone := by
  obtain ⟨hz, -, -⟩ := foldl_obeyBay (obeyZone s) allBays
  rw [obeyRows, hz, obeyZone_lockout h]

theorem onRaise_zone_of_lockout {s : State} (r : Row) (h : s.zone.state = .lockout) : (onRaise s r).zone = s.zone := by
  unfold onRaise
  split
  all_goals first | (unfold enterFire; simp [h]) | simp

theorem foldl_onRaise_zone {s : State} (l : List Row) (h : s.zone.state = .lockout) : (l.foldl onRaise s).zone = s.zone := by
  induction l generalizing s with
  | nil => rfl
  | cons r l ih =>
    have hr := onRaise_zone_of_lockout r h
    simp only [List.foldl_cons]
    rw [ih (by rw [hr]; exact h), hr]

/-- A locked-out zone stays as it is through the reactions of any event. -/
theorem settle_zone_of_lockout {s : State} (h : s.zone.state = .lockout) : (settle s).zone = s.zone := by
  refine settle_induction (P := fun u => u.zone = s.zone) s (obeyRows_zone_of_lockout h) fun u v hu hv => ?_
  have hl : u.zone.state = .lockout := by rw [hu]; exact h
  rcases react_cases hv with k | k | k | ⟨b, k⟩ | k
  · unfold handConditions at k
    dsimp only at k
    split at k
    · exact absurd k (by simp)
    · obtain rfl := Option.some.inj k
      have e := foldl_handCondition_zone u (changedRows u) (conditionOf u)
      have e1 := foldl_onRaise_zone (s := (changedRows u).foldl (fun w r => handCondition w r (conditionOf u r)) u)
        ((changedRows u).filter fun r => conditionOf u r && !raised u r) (by rw [e]; exact hl)
      rw [obeyRows_zone_of_lockout (by rw [e1, e]; exact hl), e1, e, hu]
  · unfold timersReact at k
    dsimp only at k
    split at k <;> cases k
    exact hu
  · unfold zoneReact at k
    rw [hl] at k
    split at k <;> cases k
  · rw [bayReact_zone k, hu]
  · exact absurd (feedReact_keeps k).2.2.2 (by rw [hl]; simp)

theorem settle_lockedOut {s : State} (h : LockedOut s) : LockedOut (settle s) := lockedOut_congr (settle_zone_of_lockout h.1) h

/-! ### FIRE kept through a warm reset stands (R122) -/

theorem fireKept_congr {s t : State} (hf : t.fire = s.fire) (hz : t.zone.state = s.zone.state) (h : FireKept s) : FireKept t := by
  unfold FireKept; rw [hf, hz]; exact h

theorem obeyRows_fireState {s : State} (h : s.zone.state = .fire) : (obeyRows s).zone.state = .fire := by
  obtain ⟨hz, -, -⟩ := foldl_obeyBay (obeyZone s) allBays
  rw [obeyRows, hz]
  simp [obeyZone, zoneWorking, h]

theorem foldl_onRaise_fireState {s : State} (l : List Row) (h : s.zone.state = .fire) : (l.foldl onRaise s).zone.state = .fire := by
  induction l generalizing s with
  | nil => exact h
  | cons r l ih =>
    refine ih ?_
    unfold onRaise
    split
    all_goals first
      | exact h
      | (unfold enterFire; split <;> simp [setZone, stopAtmosphere, h])
      | simpa using h

/-- The reactions of an event leave a zone in FIRE that is kept there. -/
theorem settle_fireKept {s : State} (h : FireKept s) : FireKept (settle s) := by
  refine settle_induction s (fireKept_congr (frame_obeyRows s).fire (by rw [obeyRows_fireState h.2, h.2]) h) fun u v hu hv => ?_
  refine ⟨by rw [(frame_react hv).fire]; exact hu.1, ?_⟩
  rcases react_cases hv with k | k | k | ⟨b, k⟩ | k
  · unfold handConditions at k
    dsimp only at k
    split at k
    · exact absurd k (by simp)
    · obtain rfl := Option.some.inj k
      exact obeyRows_fireState (foldl_onRaise_fireState _ (by rw [foldl_handCondition_zone, hu.2]))
  · unfold timersReact at k
    dsimp only at k
    split at k <;> cases k
    exact hu.2
  · unfold zoneReact at k
    rw [hu.2] at k
    split at k <;> simp [hu.1] at k
  · rw [bayReact_zone k, hu.2]
  · exact absurd (feedReact_keeps k).2.2.2 (by rw [hu.2]; simp)

end Sys2Proof.Machine
end

