-- ==== Sys2Proof/Laws/Input.lean ====
section
/-! SUPPORT. What a level pushed into a discrete input changes, and an arrival of one level. -/

namespace Sys2Proof.Machine

/-! ### A pushed level writes comparators and the count of the presence check, and nothing else -/

@[simp] theorem pushInput_now (s : State) (x : DiscreteInput × Bool) : (pushInput s x).now = s.now := by
  unfold pushInput; dsimp only; repeat (first | rfl | split)
@[simp] theorem pushInput_secondsDue (s : State) (x : DiscreteInput × Bool) : (pushInput s x).secondsDue = s.secondsDue := by
  unfold pushInput; dsimp only; repeat (first | rfl | split)
@[simp] theorem pushInput_loader (s : State) (x : DiscreteInput × Bool) : (pushInput s x).loader = s.loader := by
  unfold pushInput; dsimp only; repeat (first | rfl | split)
@[simp] theorem pushInput_packs (s : State) (x : DiscreteInput × Bool) : (pushInput s x).packs = s.packs := by
  unfold pushInput; dsimp only; repeat (first | rfl | split)
@[simp] theorem pushInput_handover (s : State) (x : DiscreteInput × Bool) : (pushInput s x).handover = s.handover := by
  unfold pushInput; dsimp only; repeat (first | rfl | split)
@[simp] theorem pushInput_zone (s : State) (x : DiscreteInput × Bool) : (pushInput s x).zone = s.zone := by
  unfold pushInput; dsimp only; repeat (first | rfl | split)
@[simp] theorem pushInput_fire (s : State) (x : DiscreteInput × Bool) : (pushInput s x).fire = s.fire := by
  unfold pushInput; dsimp only; repeat (first | rfl | split)
@[simp] theorem pushInput_causes (s : State) (x : DiscreteInput × Bool) : (pushInput s x).causes = s.causes := by
  unfold pushInput; dsimp only; repeat (first | rfl | split)
@[simp] theorem pushInput_timers (s : State) (x : DiscreteInput × Bool) : (pushInput s x).timers = s.timers := by
  unfold pushInput; dsimp only; repeat (first | rfl | split)
@[simp] theorem pushInput_peers (s : State) (x : DiscreteInput × Bool) : (pushInput s x).peers = s.peers := by
  unfold pushInput; dsimp only; repeat (first | rfl | split)
@[simp] theorem pushInput_startUntil (s : State) (x : DiscreteInput × Bool) : (pushInput s x).startUntil = s.startUntil := by
  unfold pushInput; dsimp only; repeat (first | rfl | split)
@[simp] theorem pushInput_bus (s : State) (x : DiscreteInput × Bool) : (pushInput s x).bus = s.bus := by
  unfold pushInput; dsimp only; repeat (first | rfl | split)
@[simp] theorem pushInput_freeIndex (s : State) (x : DiscreteInput × Bool) : (pushInput s x).freeIndex = s.freeIndex := by
  unfold pushInput; dsimp only; repeat (first | rfl | split)
@[simp] theorem pushInput_pending (s : State) (x : DiscreteInput × Bool) : (pushInput s x).pending = s.pending := by
  unfold pushInput; dsimp only; repeat (first | rfl | split)

@[simp] theorem cfg_pushInput (s : State) (x : DiscreteInput × Bool) : cfg (pushInput s x) = cfg s := by
  unfold cfg; rw [pushInput_loader]

@[simp] theorem inService_pushInput (s : State) (x : DiscreteInput × Bool) : inService (pushInput s x) = inService s := by
  unfold inService; rw [pushInput_loader]

@[simp] theorem inputConfigured_pushInput (s : State) (x : DiscreteInput × Bool) (y : DiscreteInput) :
    inputConfigured (pushInput s x) y = inputConfigured s y := by
  cases y <;> simp [inputConfigured, bayConfigured, hasZone, zoneCfg]

@[simp] theorem recordOfBay_pushInput (s : State) (x : DiscreteInput × Bool) (b : BayIdx) :
    recordOfBay (pushInput s x) b = recordOfBay s b := by
  unfold recordOfBay; rw [pushInput_packs]

@[simp] theorem recordOfId_pushInput (s : State) (x : DiscreteInput × Bool) (id : PackId) :
    recordOfId (pushInput s x) id = recordOfId s id := by
  unfold recordOfId; rw [pushInput_packs]

/-- Filtered states of the other inputs stay. -/
theorem inputFiltered_pushInput_of_ne (s : State) (x : DiscreteInput × Bool) (y : DiscreteInput) (h : y ≠ x.1) :
    inputFiltered (pushInput s x) y = inputFiltered s y := by
  obtain ⟨i, l⟩ := x
  by_cases hc : inputConfigured s i = true
  · cases i <;> cases y <;> simp only [pushInput, hc, if_true, inputFiltered] <;> (try split) <;>
      simp_all [updMeas, updZMeas, updBay, Vector.getElem_set, Fin.ext_iff]
    all_goals (split <;> first | rfl | (rename_i e; exact absurd e.symm h) | simp_all)
  · simp [pushInput, hc]

/-- An arrival of one level that makes an event: its owner acts, and the reactions follow. -/
theorem discreteArrival_single {s : State} {x : DiscreteInput} {l : Bool} {e : InputEvent} (h : inService s = true)
    (he : inputEvent s (pushInput s (x, l)) x = some e) :
    exec (.discreteArrival [(x, l)]) s = .next (markFirstOut s (settle (takeInputEvent (pushInput s (x, l)) e))) := by
  simp [exec, execDiscreteArrival, whenServing, h, he]

end Sys2Proof.Machine
end

