-- ==== Sys2Proof/Laws/Intake.lean ====
section
/-! SUPPORT. What request intake answers, said once for every kind of request, and how long a REPLY can be. -/

namespace Sys2Proof.Machine

/-- A request that reaches its block and finds room is carried out, and one REPLY with its result is queued (R190). -/
theorem request_of_taken {s : State} {h : Header} (hr : requestTaken s h = true) (kind : Byte) (f : State → Answer) :
    request h kind f s = .next (queueReply (f s).state (replyTo h kind (f s).result (f s).payload)) := by
  unfold requestTaken at hr
  simp only [Bool.and_eq_true] at hr
  simp [request, takeRequest, hr.1.1, hr.1.2, hr.2]

/-- A request that is not for this node alone does nothing (R184). -/
theorem request_of_not_heard {s : State} {h : Header} (hr : heardOwn s h = false) (kind : Byte) (f : State → Answer) :
    request h kind f s = .next s := by
  simp [request, takeRequest, hr]

/-- A request is discarded while the REPLY FIFO is full (R190). -/
theorem request_of_full {s : State} {h : Header} (hr : replyFree s = false) (kind : Byte) (f : State → Answer) :
    request h kind f s = .next s := by
  simp [request, takeRequest, hr]

/-- A request of a station outside the terminal set is answered NOT_TERMINAL and not carried out (R190). -/
theorem request_of_stranger {s : State} {h : Header} (h1 : heardOwn s h = true) (h2 : isTerminal s h.sender = false)
    (h3 : replyFree s = true) (kind : Byte) (f : State → Answer) :
    request h kind f s = .next (queueReply s (replyTo h kind .notTerminal .none)) := by
  simp [request, takeRequest, h1, h2, h3]

/-- A refusal changes nothing but the REPLY FIFO. -/
theorem refuse_state (s : State) (c : ResultCode) : (refuse s c).state = s := rfl

theorem done_state (s : State) : (done s).state = s := rfl

theorem report_state (s : State) (p : ReplyPayload) : (report s p).state = s := rfl

/-! ### What a REPLY carries -/

/-- The items of a REPLY take at most 45 bytes, so its payload is at most 48 (R181). -/
theorem replyItems_length_le (p : ReplyPayload) : (replyItems p).length ≤ 45 := by
  unfold replyItems
  split
  · simp
  · rw [List.length_take]; have := (Config.replyLength ‹_›).isLt; omega

/-- A refusal has no items (R191). -/
@[simp] theorem replyItems_none : replyItems .none = [] := rfl

end Sys2Proof.Machine
end

