-- ==== Sys2Proof/Laws/Rows.lean ====
section
/-! SUPPORT. The rows of the cause table one by one: every row is in the table once, and what raising, lowering and an event do to the
fields of a row, to the other rows and to the trip log. -/

namespace Sys2Proof.Machine

/-! ### The table -/

theorem mem_allRows (r : Row) : r ∈ allRows := by
  cases r <;> try decide
  all_goals (rename_i b; revert b; decide)

theorem allRows_sorted : allRows.Pairwise fun a b => rowPosition a < rowPosition b := by decide

theorem rowAt_rowPosition (r : Row) : rowAt (rowPosition r) = some r := by
  cases r <;> try decide
  all_goals (rename_i b; revert b; decide)

/-- Two rows at one place are one row. -/
theorem rowIndex_injective {r q : Row} (h : rowIndex r = rowIndex q) : r = q := by
  have e := rowAt_rowPosition r
  unfold rowPosition at e
  rw [h] at e
  exact Option.some.inj (e.symm.trans (rowAt_rowPosition q))

/-! ### Fields after an update -/

theorem rowState_updRow_of_ne (s : State) {r q : Row} (f : RowState → RowState) (h : q ≠ r) :
    rowState (updRow s r f) q = rowState s q :=
  rowState_updRow_other s r q f fun e => h (rowIndex_injective e).symm

@[simp] theorem tripOnRaise_causes (s : State) (r : Row) : (tripOnRaise s r).causes = s.causes := by
  unfold tripOnRaise; cases r <;> rfl

@[simp] theorem rowState_tripOnRaise (s : State) (r q : Row) : rowState (tripOnRaise s r) q = rowState s q := by
  unfold rowState; rw [tripOnRaise_causes]

@[simp] theorem rowState_clearRemote (s : State) (r q : Row) : rowState (clearRemote s r) q = rowState s q := by
  unfold clearRemote; cases r <;> rfl

@[simp] theorem rowState_closeEntry (s : State) (r q : Row) : rowState (closeEntry s r) q = rowState s q := rfl

/-- A raising touches its own row alone. -/
theorem rowState_raiseRow_of_ne (s : State) {r q : Row} (h : q ≠ r) : rowState (raiseRow s r) q = rowState s q := by
  unfold raiseRow
  rw [rowState_tripOnRaise, rowState_updRow_of_ne _ _ h]
  rfl

theorem raised_raiseRow (s : State) (r : Row) : raised (raiseRow s r) r = true := by
  unfold raised raiseRow
  rw [rowState_tripOnRaise, rowState_updRow_same]

/-- A lowering touches its own row alone. -/
theorem rowState_lowerRow_of_ne (s : State) {r q : Row} (h : q ≠ r) : rowState (lowerRow s r) q = rowState s q := by
  unfold lowerRow
  rw [rowState_clearRemote, rowState_updRow_of_ne _ _ h, rowState_closeEntry]

theorem isOwnEntry_iff (s : State) (r : Row) (e : LogEntry) :
    isOwnEntry s r e = true ↔ e.row = r ∧ (rowState s r).logEntry = some e.number := by simp [isOwnEntry]

/-- The log after a lowering: the entry of the row closed, every other as it was. -/
theorem lowerRow_log (s : State) (r : Row) :
    (lowerRow s r).causes.log =
      s.causes.log.map fun e => if isOwnEntry s r e then { e with cleared := some (nodeTime s) } else e := by
  unfold lowerRow clearRemote
  cases r <;> rfl

/-- A condition handed to the table touches its own row alone. -/
theorem rowState_handCondition_of_ne (s : State) {r q : Row} (c : Bool) (h : q ≠ r) :
    rowState (handCondition s r c) q = rowState s q := by
  unfold handCondition
  split
  · split
    · exact rowState_updRow_of_ne _ _ h
    · exact rowState_raiseRow_of_ne _ h
  · split
    · exact rowState_updRow_of_ne _ _ h
    · exact rowState_lowerRow_of_ne _ h

/-- No condition lowers a latched row (R127). -/
theorem raised_handCondition {s : State} {q : Row} (r : Row) (c : Bool) (hl : latched q = true) (hr : raised s q = true) :
    raised (handCondition s r c) q = true := by
  by_cases e : q = r
  · subst e
    unfold handCondition
    rw [hl, hr]
    unfold raised at hr ⊢
    cases c <;> simp [hr]
  · unfold raised at hr ⊢
    rw [rowState_handCondition_of_ne s c e, hr]

/-- An event touches its own row alone, and leaves it raised. -/
theorem rowState_pulseRow_of_ne (s : State) {r q : Row} (h : q ≠ r) : rowState (pulseRow s r) q = rowState s q := by
  unfold pulseRow
  split
  · exact rowState_updRow_of_ne _ _ h
  · rw [rowState_updRow_of_ne _ _ h, rowState_raiseRow_of_ne _ h]

theorem raised_pulseRow (s : State) (r : Row) : raised (pulseRow s r) r = true := by
  unfold pulseRow
  split
  · rename_i h
    unfold raised at h ⊢
    rw [rowState_updRow_same]
    exact h
  · have h := raised_raiseRow s r
    unfold raised at h ⊢
    rw [rowState_updRow_same]
    exact h

/-! ### The first-out mark of an event -/

/-- The mark moves nothing but the first-out marks of rows and log entries. -/
theorem frame_markFirstOut (before s : State) : ReactionFrame s (markFirstOut before s) := by
  unfold markFirstOut
  split
  · exact ReactionFrame.refl s
  · split
    · exact ReactionFrame.refl s
    · exact frame_updCauses s _ rfl rfl

theorem rowState_markFirstOut (before s : State) (r : Row) :
    rowState (markFirstOut before s) r = { rowState s r with firstOut := (rowState (markFirstOut before s) r).firstOut } := by
  unfold markFirstOut
  split
  · rfl
  · split
    · rfl
    · simp [rowState, updCauses]

@[simp] theorem raised_markFirstOut (before s : State) (r : Row) : raised (markFirstOut before s) r = raised s r := by
  unfold raised; rw [rowState_markFirstOut]

@[simp] theorem reacts_markFirstOut (before s : State) (r : Row) : reacts (markFirstOut before s) r = reacts s r := by
  unfold reacts; rw [rowState_markFirstOut]

/-- After the mark, with no latched row raised before the event, the raised row of lowest position has it and no other. -/
theorem firstOut_markFirstOut {before s : State} {q : Row} (h : latchedRaised before = false) (hq : lowestLatched s = some q) (r : Row) :
    (rowState (markFirstOut before s) r).firstOut = decide (r = q) := by
  have e : ((rowIndex r).val = (rowIndex q).val) ↔ r = q :=
    ⟨fun k => rowIndex_injective (Fin.ext k), fun k => k ▸ rfl⟩
  simp [markFirstOut, h, hq, rowState, updCauses, e]

end Sys2Proof.Machine
end

