-- ==== Sys2Proof/Tests/Slice0.lean ====
section
/-! SUPPORT. Tests: the checks of WellFormed, frames decoded from bytes written out, the manual's worked cases one step at a time, and for
each statement with hypotheses a state and operands that meet them. -/

namespace Sys2Proof.Machine.Tests

set_option Elab.async false

/-! ### A node to test on -/

/-- Class 0 of the example of R12 in every class. -/
def classExample : ClassConfig := { vendCell := 1000, vrelCell := 1500, iend := 200 }

/-- The gas figures of the worked case of 1.6. -/
def zoneExample : ZoneConfig :=
  { section_ := 3, o2inert := 200, o2top := 400, o2warn := 800, tol := 100, purgeLimit := 60, settle := 10, flood := 10, feedLimit := 5
    acceptLimit := 500, acceptUndeclared := true, acceptDegraded := false, lockoutOnFire := true }

/-- Four bays with sections 0 to 3, bay 0 to station 9 and bay 1 to the own zone, one watched station, one timer on G0. -/
def bodyExample : ImageBody :=
  { terminals := [5], watched := [9, 12], transitLimit := 60, samplePeriod := 10, ke := 1, kt := 1, kg := 1, kh := 1, kd := 1, bayCount := 4
    bays := [⟨0, 9⟩, ⟨1, 1⟩, ⟨2, 12⟩, ⟨3, 12⟩], classes := Vector.replicate 4 classExample, imax := 6000, irev := 500, tover := 600
    rlim := 5, restInterval := 10, maxRebounds := 1, pmin := 90, releaseLimit := 10000, offerBackoff := 5, zonePresent := 1
    zone := some zoneExample, window := 10, tconf := 30, hfire := 700, swarn := 20, sfire := 40
    ranking := #v[.thermal, .atmosphere, .electrical, .account, .line]
    timers := [{ number := 0, input := { kind := some .general, index := some 0, positive := true }, preset := 3 }], siteTerms := [] }

/-- A node at address 1 in OPERATING, as its load left it. -/
def node : State :=
  { State.reset with
    loader :=
      { mode := .operating, restart := none, address := 1, image := some { lineId := 7, period := .p100, body := bodyExample }
        lineId := 7, period := .p100, faultCode := 0 } }

/-- The same node without a zone. -/
def zoneless : State :=
  { node with
    loader := { node.loader with image := some { lineId := 7, period := .p100, body := { bodyExample with zonePresent := 0, zone := none } } } }

/-- A request of terminal 5, a frame of station 9 to this node, and one to every station. -/
def ask : Header := { line := 7, sender := 5, dest := 1, seq := 3 }
def from9 : Header := { line := 7, sender := 9, dest := 1, seq := 3 }
def all9 : Header := { line := 7, sender := 9, dest := 63, seq := 3 }

/-- "P1". -/
def p1 : PackId := [80, 49]

/-- A record of pack P1 in bay 0. -/
def rec0 : PackRecord :=
  { id := some p1, stage := .atBay, bay := some 0, origin := none, dest := none, cls := some 0, cells := some 96, edecl := some 180000
    qdis := 0, edis := 0, residual := some 180000, acc := some { qa := 0, ea := 0 }, rebounds := 0, restPassed := false, degraded := false
    thermal := false, admittedAt := 0, stageSince := 0, unanswered := 0, deadline := none }

/-- The node with one record. -/
def withRecord (r : PackRecord) (s : State) : State := { s with packs := { s.packs with records := [r] } }

/-- The node with bay 0 in a state. -/
def bayIn (st : BayState) (s : State) : State := updBay s 0 fun x => { x with state := st, presencePending := false }

/-- The node with its zone in a state. -/
def zoneIn (st : ZoneState) (s : State) : State := updZone s fun z => { z with state := st }

/-- The node with a bus. -/
def busIs (f : Bus → Bus) (s : State) : State := updBus s f

/-- The node with the time a little on. -/
def at_ (t : Nat) (s : State) : State := { s with now := t }

/-- The state a command answers. -/
def after (c : Instr) (s : State) : State :=
  match exec c s with
  | .next t => t
  | .fault _ | .refused _ => s

/-! ### WellFormed refuses what lies outside a range -/

theorem test_refuses_temperatures :
    (Instr.tbArrival 0 ⟨2001, true⟩).wellFormed = false ∧ (Instr.tbArrival 0 ⟨-401, true⟩).wellFormed = false ∧
      (Instr.tbArrival 0 ⟨2000, true⟩).wellFormed = true ∧
      (Instr.zoneArrival ⟨0, true⟩ ⟨0, true⟩ ⟨2001, true⟩ ⟨0, true⟩).wellFormed = false ∧
      (Instr.zoneArrival ⟨0, true⟩ ⟨0, true⟩ ⟨0, true⟩ ⟨-401, true⟩).wellFormed = false := by decide +kernel

theorem test_refuses_oxygen :
    (Instr.zoneArrival ⟨2501, true⟩ ⟨0, true⟩ ⟨0, true⟩ ⟨0, true⟩).wellFormed = false ∧
      (Instr.zoneArrival ⟨0, true⟩ ⟨-1, true⟩ ⟨0, true⟩ ⟨0, true⟩).wellFormed = false ∧
      (Instr.zoneArrival ⟨2500, true⟩ ⟨0, true⟩ ⟨0, true⟩ ⟨0, true⟩).wellFormed = true := by decide +kernel

theorem test_refuses_an_input_named_twice :
    (Instr.discreteArrival [(.pp 0, true), (.pp 0, false)]).wellFormed = false ∧
      (Instr.discreteArrival [(.pp 0, true), (.pp 1, false)]).wellFormed = true := by decide +kernel

theorem test_refuses_headers :
    headerWellFormed { ask with line := 0 } = false ∧ headerWellFormed { ask with sender := 0 } = false ∧
      headerWellFormed { ask with sender := 63 } = false ∧ headerWellFormed { ask with dest := 0 } = false ∧
      headerWellFormed { ask with dest := 64 } = false ∧ (Instr.run { ask with line := 0 }).wellFormed = false ∧
      (Instr.run ask).wellFormed = true := by decide +kernel

theorem test_refuses_pack_ids :
    packIdWellFormed [] = false ∧ packIdWellFormed (List.replicate 13 65) = false ∧ packIdWellFormed [31] = false ∧
      packIdWellFormed [127] = false ∧ packIdWellFormed (List.replicate 12 126) = true ∧ (Instr.accept from9 []).wellFormed = false ∧
      (Instr.transitDeadlineExpiry []).wellFormed = false ∧ (Instr.resolveLost ask []).wellFormed = false := by decide +kernel

/-- An OFFER of 96 cells with 12.0 Wh left. -/
def offer1 : OfferPayload :=
  { id := p1, cls := 0, cells := 96, edecl := some 120, qdis := 0, edis := 0, residual := some 120, degraded := false, restPassed := true
    originBay := 3, dest := 1 }

theorem test_refuses_offers :
    offerWellFormed { offer1 with cls := 4 } = false ∧ offerWellFormed { offer1 with cells := 0 } = false ∧
      offerWellFormed { offer1 with cells := 251 } = false ∧ offerWellFormed { offer1 with originBay := 4 } = false ∧
      offerWellFormed { offer1 with dest := 0 } = false ∧ offerWellFormed { offer1 with dest := 63 } = false ∧
      offerWellFormed { offer1 with edecl := some 1000001 } = false ∧ offerWellFormed { offer1 with residual := some 1000001 } = false ∧
      offerWellFormed { offer1 with edis := 1000001 } = false ∧ offerWellFormed { offer1 with edis := -1000001 } = false ∧
      offerWellFormed { offer1 with id := [] } = false ∧ offerWellFormed offer1 = true := by decide +kernel

theorem test_refuses_request_arguments :
    (Instr.start ask 4).wellFormed = false ∧ (Instr.ack ask 7).wellFormed = false ∧ (Instr.inhibit ask 0 1).wellFormed = false ∧
      (Instr.inhibit ask 67 1).wellFormed = false ∧ (Instr.inhibit ask 66 0).wellFormed = false ∧
      (Instr.inhibit ask 66 1801).wellFormed = false ∧ (Instr.inhibit ask 66 1800).wellFormed = true ∧
      (Instr.queryPackPosition ask 0).wellFormed = false ∧ (Instr.queryPackPosition ask 25).wellFormed = false ∧
      (Instr.queryCauses ask 0).wellFormed = false ∧ (Instr.queryCauses ask 67).wellFormed = false ∧
      (Instr.replyReceived ask (List.replicate 49 0)).wellFormed = false := by decide +kernel

theorem test_refuses_admits :
    (Instr.admitPack ask 4 p1 0 96 none).wellFormed = false ∧ (Instr.admitPack ask 0 [] 0 96 none).wellFormed = false ∧
      (Instr.admitPack ask 0 p1 4 96 none).wellFormed = false ∧ (Instr.admitPack ask 0 p1 0 0 none).wellFormed = false ∧
      (Instr.admitPack ask 0 p1 0 251 none).wellFormed = false ∧ (Instr.admitPack ask 0 p1 0 96 (some 1000001)).wellFormed = false ∧
      (Instr.admitPack ask 0 p1 3 250 (some 1000000)).wellFormed = true := by decide +kernel

/-! ### Bytes -/

/-- 10.1 gives the check value of the nine ASCII digits. -/
theorem test_check_value : crc16 [49, 50, 51, 52, 53, 54, 55, 56, 57] = 0x29B1#16 := by decide +kernel

/-- A frame with its check value put after it. -/
def sealed (bytes : List Byte) : List Byte := bytes ++ bytes16 (crc16 bytes)

/-- Line 7, TRIP, from 9 to 63, sequence 3, two bytes: class THERMAL, sections 0 and 2. -/
theorem test_trip_bytes : decodeFrame (sealed [7, 2, 9, 63, 3, 2, 2, 5]) = .trip all9 .thermal 5 := by decide +kernel

/-- START of bay 2 and RESTART, from the table of request kinds. -/
theorem test_request_bytes :
    decodeFrame (sealed [7, 8, 5, 1, 3, 2, 2, 2]) = .start ask 2 ∧ decodeFrame (sealed [7, 8, 5, 1, 3, 1, 18]) = .restart ask ∧
      decodeFrame (sealed [7, 8, 5, 1, 3, 4, 13, 38, 7, 8]) = .inhibit ask 38 1800 ∧
      decodeFrame (sealed [7, 8, 5, 1, 3, 2, 4, 255]) = .clearChute ask ∧
      decodeFrame (sealed [7, 8, 5, 1, 3, 2, 8, 0]) = .requestMalformed ask 8 := by decide +kernel

/-- ACCEPT of "P1": length byte, characters, zeros. -/
theorem test_accept_bytes :
    decodeFrame (sealed [7, 4, 9, 1, 3, 13, 2, 80, 49, 0, 0, 0, 0, 0, 0, 0, 0, 0, 0]) = .accept from9 p1 := by decide +kernel

/-- An OFFER: "P1", class 0, 96 cells, flags Edecl, Residual and rest-passed, 120, 0, 0, 120, bay 3, station 1. -/
theorem test_offer_bytes :
    decodeFrame (sealed [7, 3, 9, 1, 3, 32, 2, 80, 49, 0, 0, 0, 0, 0, 0, 0, 0, 0, 0, 0, 96, 11, 0, 0, 120, 0, 0, 0, 0, 0, 0, 0, 0, 0, 0, 120,
      3, 1]) = .offer from9 offer1 := by decide +kernel

/-- A zone RUNNING at age 258, two free slots, accepting, FIRE section 3. -/
def status1 : StatusPayload :=
  { mode := .operating, period := .p100, bays := #v[.empty, .loaded, .quarantine, .safe], zonePresent := true, zoneState := .running
    zoneAge := 258, freeSlots := 2, accepting := true, classes := 1, fireSections := 8, thermalSections := 0, leading := 1, lockout := false
    fault := 0 }

theorem test_status_bytes :
    decodeFrame (sealed [7, 1, 9, 63, 3, 18, 1, 2, 0, 1, 10, 7, 1, 4, 1, 2, 2, 1, 1, 8, 0, 1, 0, 0]) = .status all9 status1 := by
  decide +kernel

/-- A bay summary of 11, and a wrong check value. -/
theorem test_bad_frames :
    decodeFrame (sealed [7, 1, 9, 63, 3, 18, 1, 2, 11, 1, 10, 7, 1, 4, 1, 2, 2, 1, 1, 8, 0, 1, 0, 0]) =
        .frameDiscarded (sealed [7, 1, 9, 63, 3, 18, 1, 2, 11, 1, 10, 7, 1, 4, 1, 2, 2, 1, 1, 8, 0, 1, 0, 0]) ∧
      decodeFrame [7, 8, 5, 1, 3, 1, 18, 0, 0] = .frameDiscarded [7, 8, 5, 1, 3, 1, 18, 0, 0] := by decide +kernel

/-! ### The manual's worked cases -/

/-- R12: 96 cells of 1,000 and 1,500 mV; and 250 cells at 2,700 mV pass the limit. -/
theorem test_thresholds_of_R12 :
    deriveThresholds node 0 96 = { vend := 9600, vrel := 14400, iend := 200 } ∧ 250 * 2700 / 10 = 67500 := by decide +kernel

/-- 1.2: a bouncing input with k_d = 3 rises at the fifth arrival and stays. -/
theorem test_bouncing_input :
    ([true, false, true, true].foldl (fun c d => pushDecision 3 d c) comparatorReset).filtered = false ∧
      ([true, false, true, true, true].foldl (fun c d => pushDecision 3 d c) comparatorReset).filtered = true ∧
      ([true, false, true, true, true, false].foldl (fun c d => pushDecision 3 d c) comparatorReset).filtered = true := by
  decide +kernel

/-- 1.4: the first pair moves no reported figure; the clamped pair adds −327,680 and −2,949,120,000; an hour reports 5,000 and 175,000. -/
theorem test_integration :
    (integrateRecord 10 35000 5000 rec0).acc = some { qa := 50000, ea := 1750000000 } ∧
      (integrateRecord 10 35000 5000 rec0).residual = some 180000 ∧
      (integrateRecord 10 9000 (-32768) rec0).acc = some { qa := -327680, ea := -2949120000 } ∧
      (let r := integrateRecord 10 35000 5000 { rec0 with acc := some { qa := 17999950000, ea := 629998250000000 } }
       r.qdis = 5000 ∧ r.edis = 175000 ∧ r.residual = some 5000 ∧ r.degraded = false) := by decide +kernel

/-- 1.5: the eighth value gives a rise of 48 against 35. -/
theorem test_rise_decides :
    let s := updMeas node 0 fun m => { m with ring := [301, 304, 309, 315, 322, 330, 339] }
    ((after (.tbArrival 0 ⟨349, true⟩) s).meas[0].ring = [301, 304, 309, 315, 322, 330, 339, 349]) ∧
      (after (.tbArrival 0 ⟨349, true⟩) s).meas[0].ctRise.filtered = true ∧
      raised (after (.tbArrival 0 ⟨349, true⟩) s) (.th2 0) = true := by decide +kernel

/-- 1.6: at the fourth invalid O2A the channel counts as 25.00 % vol, AT4's condition is true and CO_dis takes no decision. -/
theorem test_oxygen_sensor_fails :
    let s := updZMeas node fun m =>
      { m with o2a := { status := .held, value := some 180, run := 3, clamp := false }
               coDis := { history := 1, filtered := true } }
    let t := after (.zoneArrival ⟨0, false⟩ ⟨360, true⟩ ⟨200, true⟩ ⟨200, true⟩) s
    t.zmeas.o2a.status = .invalid ∧ t.zmeas.coWarn.filtered = true ∧ t.zmeas.coDis.filtered = true ∧ raised t .at4 = true := by
  decide +kernel

/-- 1.7: twelve pulses make 33, FP2 stands from 20 on, and a second boundary keeps the sum. -/
theorem test_spark_burst :
    let s := updZMeas node fun m => { m with spark := [0, 0, 1, 0, 2, 3, 4, 5, 6, 0] }
    let t := after (.spArrival 12) s
    sparkSum t = 33 ∧ raised t .fp2 = true ∧
      (after .secondBoundary { t with secondsDue := 1 }).zmeas.spark = [0, 1, 0, 2, 3, 4, 5, 6, 12, 0] := by decide +kernel

/-- 6.8: D3 within 10 s of D4 raises FD1 and takes the zone to FIRE. -/
theorem test_coincidence :
    let s := { zoneIn .running node with
      now := 30000
      fire := { node.fire with det := node.fire.det.set 3 { active := true, onset := some 1200, persistUntil := some 4200, persisted := false } } }
    let t := after (.discreteArrival [(.d 2, true)]) s
    raised t .fd1 = true ∧ t.zone.state = .fire ∧ raised t .fp1 = true ∧ t.bus.tripFire = some 8 := by decide +kernel

/-- 9.2: a second early frame makes the station SUSPECT; the fourth regular frame brings it back. -/
theorem test_peer_timing :
    let e : Peer := { state := .fresh, lastSeq := some 22, lastArrival := some 130, staleAt := none, early := 1, regular := 0, reported := none }
    let q : Peer := { e with state := .suspect, lastSeq := some 27, lastArrival := some 490, early := 0, regular := 3 }
    (acceptStatus (at_ 320 node) 23 status1 e).state = .suspect ∧ (acceptStatus (at_ 1180 node) 28 status1 q).state = .fresh ∧
      statusTaken q 27 = false ∧ statusTaken q 28 = true := by decide +kernel

/-- 10.3: a trip is chosen before STATUS, handover and REPLY, and a collision keeps it and the sequence. -/
theorem test_trip_overtakes :
    let s := busIs (fun u => { u with tripThermal := some 4, statusPending := true, sequence := 40 }) node
    (after .transmitAttempt s).bus.attempt = some { frame := .trip .thermal 4, seq := 40, held := true } ∧
      (after .frameLeaves (after .transmitAttempt s)).bus.tripThermal = none ∧
      (after .frameLeaves (after .transmitAttempt s)).bus.sequence = 41 := by decide +kernel

/-- R131: of two rows that one arrival raises, the one of lower position is first out: EL4 of bay 0 over bay 1, AT5 over AC3. -/
theorem test_first_out_of_one_arrival :
    (let t := after (.discreteArrival [(.kf 1, true), (.kf 0, true)]) node
     raised t (.el4 1) = true ∧ (rowState t (.el4 0)).firstOut = true ∧ (rowState t (.el4 1)).firstOut = false) ∧
    (let s := updZMeas (updZone node fun z => { z with state := .ready }) fun m => { m with dc := { history := 255, filtered := true } }
     let t := after (.discreteArrival [(.ar, true), (.dc, false)]) s
     raised t .ac3 = true ∧ (rowState t .at5).firstOut = true ∧ (rowState t .ac3).firstOut = false) := by decide +kernel

/-- R183 has no test on a length byte above 48: a RUN of 49 bytes reaches request intake as a malformed request. -/
theorem test_long_request_is_malformed :
    decodeFrame (sealed ([7, 8, 5, 1, 3, 49, 8] ++ List.replicate 48 0)) = .requestMalformed ask 8 := by decide +kernel

/-- R191: a refusal's frame is kind, sequence and result code. -/
theorem test_refusal_has_no_items :
    (framePayload (.reply (replyTo ask 8 .state .none))).2.2.length = 3 := by decide +kernel

/-- R164 with R161: a set-back of a TIMING timer keeps the timing of its steps, one of a DONE timer starts them at the frame. -/
theorem test_set_back :
    let credit : TimerDef := { number := 0, input := { kind := some .peerZoneRunning, index := some 0, positive := true }, preset := 600 }
    let s := updPeer (at_ 400 node) 0 fun p => { p with state := .fresh, reported := some status1 }
    setBack s 0 258 credit { state := .timing, elapsed := 300, stepFrom := 13 } = { state := .timing, elapsed := 258, stepFrom := 13 } ∧
      setBack s 0 258 credit { state := .done, elapsed := 600, stepFrom := 13 } = { state := .timing, elapsed := 258, stepFrom := 20 } ∧
      setBack s 0 258 credit { state := .timing, elapsed := 258, stepFrom := 13 } = { state := .timing, elapsed := 258, stepFrom := 13 } := by
  decide +kernel

/-! ### Statements with hypotheses: what meets them -/

/-- A memory that answers, with its check value and format number, and the fields that its load gives. -/
def mem5 : List Byte := [1, 0, 5] ++ bytes16 (crc16 [1, 0, 5])
def fieldsExample : ImageFields := { lineId := some 7, periodCode := some 2, body := some bodyExample }

/-- A node at address 1 that loads, one in a warm reset whose 50 ms end at 50 ms, and one in CONFIG_FAULT. -/
def loading : State := { State.reset with loader := { State.reset.loader with address := 1 } }
def warming : State :=
  { node with now := 100, loader := { node.loader with mode := .warmReset, restart := some { endAt := 100, terminal := 5, seq := 3 } } }
def faulted : State := { loading with loader := { loading.loader with mode := .configFault, faultCode := 4 } }

/-- The node in MAINTENANCE. -/
def maintained : State := { node with loader := { node.loader with mode := .maintenance } }

/-- A request from no terminal, and a request to another station. -/
def ask8 : Header := { ask with sender := 8 }
def ask2 : Header := { ask with dest := 2 }

/-- The REPLY FIFO with n frames. -/
def repliesOf (n : Nat) (s : State) : State :=
  busIs (fun u => { u with replies := List.replicate n { dest := 5, kind := 8, seq := 1, result := .done, payload := .none } }) s

/-- A bay with its PP or KF input decided true. -/
def ppOn (s : State) : State := updMeas s 0 fun m => { m with pp := { history := 255, filtered := true } }
def kfOn (s : State) : State := updMeas s 0 fun m => { m with kf := { history := 255, filtered := true } }

theorem witness_StepRunsFront : { node with pending := [.fpPulseEnd, .run ask] }.pending = .fpPulseEnd :: [.run ask] := rfl

theorem witness_LoadEndEntersOperating :
    loading.loader.mode = .starting ∧ (decodedImage fieldsExample).isSome = true ∧ validate 1 mem5 fieldsExample = 0 := by decide +kernel

theorem witness_LoadEndEntersConfigFault :
    loading.loader.mode = .starting ∧ validate 1 [] fieldsExample = 1 ∧ validate 1 [1, 0, 5, 0, 0] fieldsExample = 2 ∧
      readCompletes mem5 = true ∧ checkValueOk mem5 = true ∧ formatOk mem5 = true ∧
      (let mem := [2, 0, 5] ++ bytes16 (crc16 [2, 0, 5]); checkValueOk mem = true ∧ formatOk mem = false) ∧
      (∀ l ∈ [0, 256], decodedImage { fieldsExample with lineId := some l } = none) ∧
      (∀ l ∈ [1, 255], (decodedImage { fieldsExample with lineId := some l }).isSome = true) ∧
      (∀ p ∈ [0, 4], (some p).bind periodOf = none) ∧ (∀ p ∈ [1, 2, 3], ((some p).bind periodOf).isSome = true) ∧
      (let coded (body : ImageBody) : ImageFields := { fieldsExample with body := some body }
       let t0 : TimerDef := { number := 0, input := { kind := some .general, index := some 0, positive := true }, preset := 3 }
       let self : TimerDef := { t0 with input := { kind := some .dwell, index := some 0, positive := true } }
       let far : TimerDef := { t0 with input := { kind := some .peerFresh, index := some 2, positive := true } }
       validate 1 mem5 { fieldsExample with body := some { bodyExample with bayCount := 5 } } = 4 ∧
        validate 1 mem5 (coded { bodyExample with sfire := 10 }) = 5 ∧ validate 63 mem5 fieldsExample = 6 ∧
        validate 9 mem5 fieldsExample = 6 ∧ validate 2 mem5 fieldsExample = 7 ∧
        validate 1 mem5 (coded { bodyExample with timers := [t0, t0] }) = 8 ∧
        validate 1 mem5 (coded { bodyExample with timers := [self] }) = 9 ∧
        validate 1 mem5 (coded { bodyExample with timers := [far] }) = 10 ∧
        validate 1 mem5 (coded { bodyExample with ranking := #v[.thermal, .thermal, .electrical, .account, .line] }) = 11) := by
  decide +kernel

theorem witness_RestartEntersWarmReset :
    (∀ st ∈ ([.connecting, .discharging, .resting, .held, .offering, .empty, .loaded, .admitted, .safe, .releasing, .quarantine] :
        List BayState),
      requestTaken (bayIn st (withRecord rec0 node)) ask = true ∧ (bayIn st (withRecord rec0 node)).bays[0].state = st) ∧
    (∀ st ∈ ([.air, .purging, .inert, .ready, .running, .alarm, .fire, .lockout] : List ZoneState),
      requestTaken (zoneIn st node) ask = true ∧ (zoneIn st node).zone.state = st) ∧
    recordOfBay (withRecord rec0 node) 0 = some rec0 ∧ rec0.cls = some 0 ∧ rec0.cells = some 96 ∧
    recordOfBay (withRecord rec0 node) 1 = none ∧
    (let s := updBay (bayIn .held node) 0 fun x => { x with window := .opening 400 }
     requestTaken s ask = true ∧ s.bays[0].window = .opening 400 ∧ s.bays[0].state ≠ .connecting) := by decide +kernel

theorem witness_WarmResetEndReturnsToService :
    (warming.loader.mode = .warmReset ∧ warming.loader.restart = some { endAt := 100, terminal := 5, seq := 3 } ∧ 100 ≤ warming.now ∧
      hasZone warming = true ∧ hasZone { warming with loader := { zoneless.loader with mode := .warmReset } } = false ∧
      (at_ 99 warming).now < 100) ∧
    (∀ st ∈ ([.inTransit, .reserved] : List Stage), ∀ o ∈ ([none, some 1] : List (Option Addr)),
      let r := { rec0 with stage := st, origin := o, deadline := some 5 }
      recordOfId (withRecord r warming) p1 = some r ∧ 5 ≤ nodeCount (withRecord r warming) ∧ ¬5 ≤ nodeCount (at_ 99 warming) ∧
        warming.loader.address = 1) ∧
    (let r := { rec0 with deadline := some 5 }
     let s := bayIn .releasing (withRecord r warming)
     recordOfId s p1 = some r ∧ r.stage = .atBay ∧ r.bay = some 0 ∧ s.bays[0].state = .releasing ∧ 5 ≤ nodeCount s) ∧
    (let s := updZone (withRecord { rec0 with stage := .feeding } warming) fun z =>
       { z with queue := [p1], feedUntil := some 100, floodUntil := some 100 }
     s.zone.feedUntil = some 100 ∧ s.zone.floodUntil = some 100 ∧ 100 ≤ s.now ∧ s.zone.queue.head? = some p1 ∧
      slotStage s p1 = some .feeding) := by decide +kernel

/-- Runs at their ends, and filters of length 1 and 8 that agree and that do not. -/
theorem witness_ReadingsAndDecisions :
    (∀ c ∈ ([⟨.valid, some 1, 0, false⟩, ⟨.held, some 1, 2, false⟩] : List Channel),
      (c.status = .valid ∨ c.status = .held) ∧ c.run ≤ 2) ∧
    ((⟨.held, some 1, 3, false⟩ : Channel).status = .held ∧ (⟨.noSample, none, 2, false⟩ : Channel).run ≤ 2 ∧
      (⟨.noSample, none, 3, false⟩ : Channel).run = 3 ∧ (⟨.invalid, none, 4, false⟩ : Channel).status = .invalid) ∧
    (∀ k ∈ [1, 8], (∀ n < k, (pushDecision k true ⟨255, false⟩).history.getLsbD n = true) ∧
      (∀ n < k, (pushDecision k false ⟨0, true⟩).history.getLsbD n = false)) ∧
    ((∃ n < 8, (pushDecision 8 true ⟨0, false⟩).history.getLsbD n = true) ∧
      ∃ n < 8, (pushDecision 8 true ⟨0, false⟩).history.getLsbD n = false) := by decide +kernel

/-- The node with three bays, so that bay 3 is not configured. -/
def threeBays : State :=
  { node with
    loader := { node.loader with image := some { lineId := 7, period := .p100, body := { bodyExample with bayCount := 3 } } } }

/-- Bay 0 in a state with a record, thresholds, and both channels sound. -/
def paired (st : BayState) : State :=
  updMeas (bayIn st (withRecord { rec0 with restPassed := true } node)) 0 fun m =>
    { m with v := { status := .valid, value := some 14000, run := 0, clamp := false }
             i := { status := .valid, value := some 0, run := 0, clamp := false }
             thresholds := some ⟨9600, 14400, 200⟩ }

/-- A pair above Vrel in SAFE and OFFERING is a late rebound, at the current limit it also raises EL1 and holds the bay; CI_end false arms. -/
theorem witness_PairArrivalMeasures :
    (inService node = true ∧ bayConfigured node 0 = true ∧ bayConfigured node 3 = true ∧ node.meas[0].thresholds = none ∧
      bayConfigured threeBays 3 = false ∧ bayConfigured threeBays 2 = true ∧ inService threeBays = true) ∧
    (paired .safe).meas[0].thresholds = some ⟨9600, 14400, 200⟩ ∧
    (∀ st ∈ ([.safe, .offering] : List BayState),
      (paired st).bays[0].state = st ∧ (paired st).meas[0].cvRel.filtered = false ∧
        (after (.pairArrival 0 14400 true 0 true) (paired st)).meas[0].cvRel.filtered = true ∧
        (after (.pairArrival 0 14399 true 0 true) (paired st)).meas[0].cvRel.filtered = false ∧
        (after (.pairArrival 0 14400 true 0 true) (paired st)).bays[0].state = .connecting) ∧
    ((handConditions (measurePair (paired .safe) 0 ⟨14400, true⟩ ⟨6000, true⟩)).map fun t => t.bays[0].state) = some .held ∧
    ((after (.pairArrival 0 14000 true 201 true) (paired .discharging)).bays[0].endArmed = true ∧
      (after (.pairArrival 0 14000 true 200 true) (paired .discharging)).bays[0].endArmed = false) := by decide +kernel

/-- Accumulators at their limits and one step past them, Edis at its limit and past it, the Residual at both ends. -/
theorem witness_IntegrationFollowsRules :
    (let a : Accumulators := { qa := 140737488355326, ea := 9223372036854775806 }
     ({ rec0 with acc := some a } : PackRecord).acc = some a ∧ a.qa + 1 * 1 ≤ 140737488355327 ∧ 140737488355327 < a.qa + 2 * 1 ∧
      a.ea + 1 * 1 * 1 ≤ 9223372036854775807 ∧ 9223372036854775807 < a.ea + 1 * 2 * 1) ∧
    (let a : Accumulators := { qa := -140737488355327, ea := -9223372036854775807 };
     (-140737488355328 : Int) ≤ a.qa + -1 * 1 ∧ a.qa + -2 * 1 < -140737488355328 ∧ -9223372036854775808 ≤ a.ea + 1 * -1 * 1 ∧
      a.ea + 1 * -2 * 1 < -9223372036854775808) ∧
    ((3600000000000000 : Int).tdiv 3600000000 ≤ 1000000 ∧ 1000000 < (3600003600000000 : Int).tdiv 3600000000 ∧
      -1000000 ≤ (-3600000000000000 : Int).tdiv 3600000000 ∧ (-3600003600000000 : Int).tdiv 3600000000 < -1000000) ∧
    (rec0.edecl = some 180000 ∧ ({ rec0 with edecl := none } : PackRecord).edecl = none ∧ (180000 : Int) - 180001 < 0 ∧
      (180000 : Int) < 180000 - -1 ∧ ((0 : Nat) : Int) = 180000 - 180000 ∧ ((180000 : Nat) : Int) = 180000 - 0) := by decide +kernel

theorem witness_TbArrivalMeasures :
    (inService threeBays = true ∧ bayConfigured threeBays 3 = false) ∧ inService node = true ∧ bayConfigured node 0 = true ∧
      (after (.tbArrival 0 ⟨349, true⟩) node).meas[0].tb.value = some 349 ∧ node.meas[0].ring.length < 8 ∧
      (let s := updMeas node 0 fun m => { m with ring := [301, 304, 309, 315, 322, 330, 339, 349] }
       s.meas[0].ring.length = 8 ∧ (after (.tbArrival 0 ⟨350, true⟩) s).meas[0].ring.length = 8) ∧
      (let s := updMeas node 0 fun m => { m with tb := { status := .held, value := some 300, run := 3, clamp := false } }
       (after (.tbArrival 0 ⟨0, false⟩) s).meas[0].tb.status = .invalid) ∧
      ((after (.tbArrival 0 ⟨0, false⟩) node).meas[0].tb.value = none ∧
        (after (.tbArrival 0 ⟨0, false⟩) node).meas[0].tb.status ≠ .invalid) := by decide +kernel

theorem witness_ZoneArrivalMeasures :
    (inService zoneless = true ∧ zoneCfg zoneless = none) ∧ inService node = true ∧ zoneCfg node = some zoneExample ∧
      (let c : Channel := { status := .valid, value := some 180, run := 0, clamp := false }
       oxygenReads c = some 180 ∧ oxygenReads { c with status := .invalid, value := none } = some 2500 ∧
        oxygenReads { c with status := .noSample, value := none } = none) ∧
      (∀ st ∈ ([.air, .ready, .running, .lockout] : List ZoneState), (zoneIn st node).zone.state ≠ .inert) := by decide +kernel

theorem witness_DiscreteInputsMeasure :
    (inService node = true ∧ (([(.pp 0, true), (.g 7, true), (.d 3, false)] : List (DiscreteInput × Bool)).map Prod.fst).Nodup) ∧
    (∀ x ∈ ([(.pp 3, true), (.kf 3, false)] : List (DiscreteInput × Bool)), inputConfigured threeBays x.1 = false) ∧
    (hasZone zoneless = false ∧ inService zoneless = true ∧ node.secondsDue = 0 ∧ 0 < { zoneless with secondsDue := 1 }.secondsDue) ∧
    (hasZone node = true ∧ node.zmeas.spark = List.replicate 9 0 ++ [0] ∧ node.zmeas.spark = 0 :: List.replicate 9 0 ∧
      0 < { node with secondsDue := 1 }.secondsDue) := by decide +kernel

theorem witness_BayInputsCross :
    (rises (bayIn .empty node) (.pp 0) ∧ (bayIn .empty node).bays[0].presencePending = false) ∧
    (∀ st ∈ ([.quarantine, .admitted] : List BayState),
      rises (bayIn st node) (.pp 0) ∧ (bayIn st node).bays[0].presencePending = false ∧ (bayIn st node).bays[0].state ≠ .empty) ∧
    (∀ st ∈ ([.loaded, .empty, .quarantine, .admitted, .connecting, .offering, .releasing] : List BayState),
      falls (ppOn (bayIn st (withRecord rec0 node))) (.pp 0) ∧
        recordOfBay (ppOn (bayIn st (withRecord rec0 node))) 0 = some rec0) ∧
    rec0.id = some p1 ∧ holdsPack (bayIn .admitted node) 0 = true ∧
    (∀ st ∈ ([.admitted, .connecting] : List BayState), rises (bayIn st node) (.kf 0) ∧ falls (kfOn (bayIn st node)) (.kf 0)) ∧
    coilOn (bayIn .admitted node) 0 = false ∧ coilOn (bayIn .connecting node) 0 = true ∧
    (bayIn .admitted node).bays[0].window = .none ∧
    (let s := updBay (bayIn .admitted node) 0 fun x => { x with window := .opening 400 }
     rises s (.kf 0) ∧ falls (kfOn s) (.kf 0) ∧ s.bays[0].window = .opening 400) ∧
    (let s := updBay (bayIn .connecting node) 0 fun x => { x with window := .closing 400 }
     falls (kfOn s) (.kf 0) ∧ s.bays[0].window = .closing 400) := by
  unfold rises falls
  decide +kernel

/-- A slot of P1 with its record in a stage. -/
def slotOf (r : PackRecord) : State := updZone (withRecord r node) fun z => { z with queue := [p1] }

theorem witness_ZoneInputsCross :
    (∀ st ∈ ([.reserved, .inTransit] : List Stage),
      rises (slotOf { rec0 with stage := st }) .ar ∧ (slotOf { rec0 with stage := st }).zone.queue = [] ++ p1 :: [] ∧
        recordOfId (slotOf { rec0 with stage := st }) p1 = some { rec0 with stage := st }) ∧
    (rises node .ar ∧ node.zone.queue = [] ∧ node.packs.records.length < 24) ∧
    (let s := { node with packs := { node.packs with records := List.replicate 24 { rec0 with stage := .unidentified, id := none } } }
     rises s .ar ∧ 24 ≤ s.packs.records.length) ∧
    (∀ st ∈ ([.feeding, .waiting] : List Stage),
      rises (slotOf { rec0 with stage := st }) .fc ∧ recordOfId (slotOf { rec0 with stage := st }) p1 = some { rec0 with stage := st }) ∧
    rises node (.d 0) ∧ rises node (.d 3) ∧ (rises node .fc ∧ node.zone.queue = []) ∧ rises node .dc ∧ rises node (.g 7) ∧
    (let s := updZMeas node fun m =>
       { m with dc := { history := 255, filtered := true }, ar := { history := 255, filtered := true }
                fc := { history := 255, filtered := true }, g := m.g.set 7 { history := 255, filtered := true } }
     falls s .dc ∧ falls s .ar ∧ falls s .fc ∧ falls s (.g 7)) ∧
    falls (updZMeas node fun m => { m with d := m.d.set 3 { history := 255, filtered := true } }) (.d 3) := by
  unfold rises falls
  and_intros <;> decide +kernel

/-- Conditions changed, a timer to move, a zone and a bay that react, one that does not, and a feed to start. -/
theorem witness_EventsRunToTheirEnd :
    (let s := updBay node 0 fun x => { x with mismatch := true }
     (handConditions s).isSome = true ∧ conditionOf s (.el4 0) = true ∧ raised s (.el4 0) = false) ∧
    (let quiet : State := { node with startUntil := some 1 }
     handConditions quiet = none ∧ timersAfter quiet quiet.timers = quiet.timers ∧ zoneReact quiet = none ∧
      (∀ b : BayIdx, bayReact quiet b = none) ∧ inService quiet = true) ∧
    (let s := updZMeas { node with startUntil := some 1 } fun m => { m with g := m.g.set 0 { history := 255, filtered := true } }
     handConditions s = none ∧ timersAfter s s.timers ≠ s.timers) ∧
    (let s := zoneIn .fire { node with startUntil := some 1 }; (zoneReact s).isSome = true) ∧
    (let s := updMeas (bayIn .resting (withRecord rec0 { node with startUntil := some 1 })) 0 fun m =>
       { m with cvRel := { history := 255, filtered := true } }
     handConditions s = none ∧ timersAfter s s.timers = s.timers ∧ zoneReact s = none ∧ (bayReact s 0).isSome = true) ∧
    (onRaise (zoneIn .running node) .fd4).zone.state = .fire ∧ (onRaise (bayIn .resting node) (.th2 0)).bays[0].state = .quarantine ∧
    onRaise node (.th1 3) = node ∧
    (exec (.run ask) node matches .next _) ∧ setsOffNothing (.run ask) = false := by decide +kernel

theorem witness_BayIntervalsEnd :
    inService node = true ∧
    (let s := updBay (at_ 400 node) 0 fun x => { x with window := .closing 400, backoffUntil := some 400, rgUntil := some 400 }
     s.bays[0].window = .closing 400 ∧ s.bays[0].backoffUntil = some 400 ∧ s.bays[0].rgUntil = some 400 ∧ 400 ≤ s.now ∧
      { s with now := 399 }.now < 400) ∧
    (updBay (at_ 400 node) 0 fun x => { x with window := .opening 400 }).bays[0].window = .opening 400 := by decide +kernel

/-- The node with sound channels in bay 0 and the P1 record, and a comparator of bay 0 decided true. -/
def live (st : BayState) : State :=
  updMeas (bayIn st (withRecord rec0 node)) 0 fun m =>
    { m with v := { status := .valid, value := some 15000, run := 0, clamp := false }
             i := { status := .valid, value := some 0, run := 0, clamp := false } }
def on : Comparator := { history := 255, filtered := true }

theorem witness_BayReactions :
    (∀ st ∈ ([.connecting, .discharging] : List BayState),
      (live st).bays[0].state = st ∧ connectPermit (live st) 0 = true ∧ connectPermit (bayIn st node) 0 = false) ∧
    (live .connecting).meas[0].kf.filtered = false ∧ (kfOn (live .connecting)).meas[0].kf.filtered = true ∧
    (let s := updMeas (kfOn (live .connecting)) 0 fun m => { m with cvEnd := on }
     s.meas[0].kf.filtered = true ∧ s.meas[0].cvEnd.filtered = true) ∧
    (let s := updBay (updMeas (live .discharging) 0 fun m => { m with ciEnd := on }) 0 fun x => { x with endArmed := true }
     s.meas[0].ciEnd.filtered = true ∧ s.bays[0].endArmed = true) ∧
    (updMeas (live .resting) 0 fun m => { m with cvRel := on }).meas[0].cvRel.filtered = true ∧
    (∀ ret ∈ ([.connecting, .resting, .safeRecheck] : List ReturnState),
      let s := updBay (live .held) 0 fun x => { x with ret := some ret }
      s.bays[0].state = .held ∧ held s 0 = false ∧ s.bays[0].ret = some ret ∧ held (raiseRow s (.th1 0)) 0 = true) ∧
    (∀ st ∈ ([.connecting, .discharging, .resting, .safe, .offering] : List BayState),
      workingState (live st) 0 = true ∧ held (live st) 0 = false ∧ held (raiseRow (live st) (.th1 0)) 0 = true) ∧
    (∀ st ∈ ([.empty, .loaded, .admitted, .offering, .releasing, .quarantine] : List BayState), (live st).bays[0].state = st) ∧
    ownReaction (live .resting) 0 = none ∧
    (ownReaction (updMeas (live .resting) 0 fun m => { m with cvRel := on }) 0).isSome = true := by decide +kernel

/-- Bay 0 (to station 9) and bay 1 (to the own zone), SAFE with a record each, station 9 accepting and the own zone READY. -/
def ready9 : State := updPeer (bayIn .safe (withRecord rec0 node)) 0 fun p => { p with state := .fresh, reported := some status1 }
def ready1 : State :=
  updBay (zoneIn .ready (withRecord { rec0 with bay := some 1, residual := some 500 } node)) 1 fun x =>
    { x with state := .safe, presencePending := false }

theorem witness_BayTransitions :
    (∀ st ∈ ([.connecting, .discharging, .resting, .safe, .offering] : List BayState),
      (live st).bays[0].state = st ∧ recordOfBay (live st) 0 = some rec0) ∧
    workingState (live .admitted) 0 = false ∧
    (rec0.rebounds < (cfg (live .resting)).maxRebounds ∧ (cfg (live .resting)).maxRebounds ≤ { rec0 with rebounds := 1 }.rebounds ∧
      connectPermit (updRecordOfBay (live .resting) 0 fun r => { r with rebounds := r.rebounds + 1 }) 0 = true ∧
      connectPermit (updRecordOfBay (bayIn .resting (withRecord rec0 node)) 0 fun r => { r with rebounds := r.rebounds + 1 }) 0 = false) ∧
    (∀ st ∈ ([.admitted, .held, .releasing] : List BayState), holdsPack (live st) 0 = true ∧ (live st).bays[0].state = st) ∧
    (∀ st ∈ ([.empty, .loaded, .quarantine] : List BayState), holdsPack (live st) 0 = false ∧ (live st).bays[0].state = st) ∧
    (let s := withRecord { rec0 with residual := some 10000 } ready9
     recordOfBay s 0 = some { rec0 with residual := some 10000 } ∧ releasePermit s 0 = true ∧ s.bays[0].backoffUntil = none ∧
      10000 ≤ (cfg s).releaseLimit ∧ bayDest s 0 ≠ s.loader.address ∧ s.bus.handover.length < 8 ∧
      (offerIfReady s 0).isSome = true ∧ (cfg s).releaseLimit < 10001) ∧
    (let s := busIs (fun u => { u with handover := List.replicate 8 { dest := 9, body := .landed p1 } }) ready9
     8 ≤ s.bus.handover.length ∧ offerIfReady s 0 = none) ∧
    recordOfBay (bayIn .safe node) 0 = none ∧
    (recordOfBay ready1 1 = some { rec0 with bay := some 1, residual := some 500 } ∧ releasePermit ready1 1 = true ∧
      bayDest ready1 1 = ready1.loader.address ∧ zoneCfg ready1 = some zoneExample ∧
      zoneExample.acceptLimit < 501 ∧ (offerIfReady ready1 1).isSome = true) ∧
    (∀ st ∈ ([.empty, .loaded, .admitted, .releasing, .quarantine] : List BayState),
      (ppOn (bayIn st node)).meas[0].pp.filtered = true ∧ (bayIn st node).meas[0].pp.filtered = false ∧ (bayIn st node).bays[0].state = st) ∧
    (inService node = true ∧ bayConfigured node 0 = true ∧ node.bays[0].presencePending = true ∧ (cfg node).kd ≤ node.bays[0].ppSeen + 1) ∧
    (let l := { node.loader with image := some { lineId := 7, period := .p100, body := { bodyExample with kd := 8 } } }
     let s : State := { node with loader := l }
     s.bays[0].presencePending = true ∧ s.bays[0].ppSeen + 1 < (cfg s).kd) := by decide +kernel

/-- Bay 0 RESTING with its interval run out. -/
def rested (r : PackRecord) : State := updBay (bayIn .resting (withRecord r (at_ 20000 node))) 0 fun x => { x with restUntil := some 20000 }

theorem witness_RestExpiryJudges :
    (inService (rested rec0) = true ∧ (rested rec0).bays[0].state = .resting ∧ (rested rec0).bays[0].restUntil = some 20000 ∧
      20000 ≤ (rested rec0).now ∧ recordOfBay (rested rec0) 0 = some rec0) ∧
    ((updMeas (rested rec0) 0 fun m => { m with cvRel := { history := 255, filtered := true } }).meas[0].cvRel.filtered = true ∧
      rec0.rebounds < (cfg (rested rec0)).maxRebounds ∧ (cfg (rested rec0)).maxRebounds ≤ { rec0 with rebounds := 1 }.rebounds ∧
      (rested rec0).meas[0].cvRel.filtered = false) ∧
    (let live := updMeas (rested rec0) 0 fun m =>
       { m with v := { status := .valid, value := some 15000, run := 0, clamp := false }
                i := { status := .valid, value := some 0, run := 0, clamp := false } }
     connectPermit (updRecordOfBay (updBay live 0 fun x => { x with restUntil := none }) 0 fun x => { x with rebounds := x.rebounds + 1 }) 0 =
      true) ∧
    (connectPermit (updRecordOfBay (updBay (rested rec0) 0 fun x => { x with restUntil := none }) 0
      fun x => { x with rebounds := x.rebounds + 1 }) 0 = false) ∧
    (rec0.edecl = some 180000 ∧ (161999 : Int) * 100 < ((180000 : Nat) : Int) * 90 ∧ ¬(162000 : Int) * 100 < ((180000 : Nat) : Int) * 90 ∧
      (cfg (rested rec0)).pmin = 90) ∧
    ((cfg (rested rec0)).releaseLimit < 10001 ∧ 10000 ≤ (cfg (rested rec0)).releaseLimit) := by decide +kernel

theorem witness_HandoverDeadlinesExpire :
    (let s := bayIn .offering (withRecord rec0 (at_ 800 node))
     inService s = true ∧ s.bays[0].state = .offering ∧
      (updHandover s 0 fun x => { x with entry := .queued p1 9 0 }).handover[0].entry = .queued p1 9 0 ∧
      0 + 4 * Config.period s.loader.period ≤ s.now ∧ 799 < 0 + 4 * Config.period s.loader.period ∧
      (updHandover s 0 fun x => { x with entry := .out p1 9 0 800 }).handover[0].entry = .out p1 9 0 800) ∧
    (∀ st ∈ ([.inTransit, .reserved] : List Stage), ∀ o ∈ ([none, some 1] : List (Option Addr)),
      let r := { rec0 with stage := st, origin := o, deadline := some 6000 }
      let s := withRecord r (at_ 120000 node)
      recordOfId s p1 = some r ∧ r.deadline = some 6000 ∧ 6000 ≤ nodeCount s ∧ s.loader.address = 1) ∧
    (let r := { rec0 with deadline := some 6000 }
     let s := bayIn .releasing (withRecord r (at_ 120000 node))
     inService s = true ∧ recordOfId s p1 = some r ∧ 6000 ≤ nodeCount s ∧ r.stage = .atBay ∧ r.bay = some 0 ∧
      s.bays[0].state = .releasing) ∧
    (∀ d ∈ ([1, 9] : List Addr),
      let r := { rec0 with deadline := some 6000, dest := some d }
      let s := bayIn .releasing (withRecord r (at_ 120000 node))
      recordOfBay s 0 = some r ∧ s.bays[0].state = .releasing ∧ 6000 ≤ nodeCount s ∧ s.bus.handover.length < 8) := by decide +kernel

/-- The OFFER of offer1 to this node, a repeat, and one for each check of R80. -/
theorem witness_OfferIsAnswered :
    (heardOwn node from9 = true ∧ offerFormed node offer1 = true ∧ node.bus.handover.length < 8 ∧
      isRepeat node 9 offer1 = false) ∧
    (offerFormed node { offer1 with dest := 2 } = false ∧ offerFormed node { offer1 with originBay := 4 } = false ∧
      8 ≤ (busIs (fun u => { u with handover := List.replicate 8 { dest := 9, body := .landed p1 } }) node).bus.handover.length) ∧
    isRepeat (withRecord { rec0 with stage := .reserved, origin := some 9 } node) 9 offer1 = true ∧
    declines node offer1 = some .state ∧ declines (zoneIn .ready node) offer1 = none ∧ declines (zoneIn .running node) offer1 = none ∧
    declines (raiseRow (zoneIn .ready node) .ac3) offer1 = some .blocked ∧
    declines (updZone (zoneIn .ready node) fun z => { z with queue := [[65], [66], [67], [68]] }) offer1 = some .full ∧
    declines (updZone (zoneIn .ready node) fun z => { z with queue := [[65], [66], [67]] }) offer1 = none ∧
    declines (withRecord { rec0 with stage := .missing } (zoneIn .ready node)) offer1 = some .duplicate ∧
    declines (zoneIn .ready node) { offer1 with edecl := some 501 } = some .residual ∧
    declines (zoneIn .ready node) { offer1 with edecl := some 500 } = none ∧
    declines (zoneIn .ready node) { offer1 with degraded := true } = some .degraded ∧
    zoneCfg node = some zoneExample ∧ zoneCfg zoneless = none ∧ declines zoneless offer1 = some .state := by decide +kernel

/-- Bay 0 OFFERING P1 to station 9, which reports a zone that accepts. -/
def offering : State :=
  updPeer (updHandover (bayIn .offering (withRecord rec0 node)) 0 fun x => { x with entry := .out p1 9 0 800 }) 0 fun p =>
    { p with state := .fresh, reported := some status1 }

theorem witness_HandoverAnswersAreTaken :
    (heardOwn offering from9 = true ∧ 1 ≤ p1.length ∧ p1.length ≤ 12 ∧ answeredBay offering 9 p1 = some 0 ∧
      releasePermit offering 0 = true) ∧
    (let s := updPeer offering 0 fun p => { p with state := .stale }
     heardOwn s from9 = true ∧ answeredBay s 9 p1 = some 0 ∧ releasePermit s 0 = false) ∧
    (answeredBay node 9 p1 = none ∧ releaseUnderWay node 9 p1 = false) ∧
    (let s := withRecord { rec0 with stage := .inTransit, dest := some 9 } node
     answeredBay s 9 p1 = none ∧ releaseUnderWay s 9 p1 = true) ∧
    (let id : PackId := List.replicate 12 65; id.length ≤ 12 ∧ answeredBay node 9 id = none) ∧
    recordOfId node p1 = none ∧ bayDest (withRecord rec0 node) 0 = 9 ∧ bayDest (withRecord { rec0 with bay := some 2 } node) 2 ≠ 9 ∧
    (∀ st ∈ ([.reserved, .inTransit, .missing, .waiting, .atBay] : List Stage), ∀ o ∈ ([none, some 1, some 9] : List (Option Addr)),
      let r := { rec0 with stage := st, origin := o }
      heardOwn (withRecord r node) from9 = true ∧ recordOfId (withRecord r node) p1 = some r) := by decide +kernel

theorem witness_ZoneIntervalsEnd :
    inService node = true ∧ 600 ≤ (at_ 600 node).now ∧
    (updZone (at_ 600 node) fun z => { z with fpUntil := some 600, feedUntil := some 600 }).zone.feedUntil = some 600 ∧
    (slotOf { rec0 with stage := .feeding }).zone.queue = [p1] ∧ slotStage (slotOf { rec0 with stage := .feeding }) p1 = some .feeding ∧
    node.zone.queue = [] ∧
    (updZone (zoneIn .purging node) fun z => { z with purgeUntil := some 600 }).zone.state = .purging ∧
    (updZone (zoneIn .inert node) fun z => { z with settleUntil := some 600 }).zone.state = .inert ∧
    (updZone (zoneIn .fire node) fun z => { z with floodUntil := some 600 }).zone.state = .fire := by decide +kernel

/-- A zone in FIRE since before a warm reset, its flood run out and no row raised, the re-formation interval running to 62 s. -/
def keptFire : State := updFire (zoneIn .fire node) fun f => { f with zoneKept := true, reformUntil := some 62000 }

/-- R122: the zone leaves FIRE at the end of the re-formation interval and not before, with no row of FD1 to FD4 held. -/
theorem test_fire_kept_until_reformation :
    (after .floodTimerExpiry keptFire).zone.state = .fire ∧ (after (.persistenceTimerExpiry 0) (settle keptFire)).zone.state = .fire ∧
    (after .reformationTimerExpiry { keptFire with now := 62000 }).zone.state = .lockout ∧
    (after (.restart ask) (zoneIn .fire node)).fire.zoneKept = true ∧ (after (.restart ask) (zoneIn .ready node)).fire.zoneKept = false := by
  decide +kernel

theorem witness_ZoneTransitions :
    (let s := raiseRow (updCauses node fun c => { c with remoteFire := { sections := 8, originators := [9] } }) .fd5
     zoneHeld s = true ∧ zoneHeld (updRow s .fd5 fun x => { x with inhibit := some 5 }) = false ∧
      zoneHeld (updCauses s fun c => { c with remoteFire := { sections := 7, originators := [9] } }) = false) ∧
    (keptFire.zone.state = .fire ∧ keptFire.zone.floodUntil = none ∧ fireRaised keptFire = false ∧ keptFire.fire.zoneKept = true) ∧
    (zoneIn .fire node).fire.zoneKept = false ∧
    zoneCfg node = some zoneExample ∧
    (let s := zoneIn .fire node
     s.zone.floodUntil = none ∧ fireRaised s = false ∧ fireRaised (raiseRow s .fd4) = true ∧
      (updZone s fun z => { z with floodUntil := some 1 }).zone.floodUntil ≠ none) ∧
    (updZMeas (zoneIn .purging node) fun m => { m with coInert := { history := 255, filtered := true } }).zmeas.coInert.filtered = true ∧
    (zoneIn .inert node).zmeas.coInert.filtered = false ∧ runPermit (zoneIn .running node) = false ∧
    (let s := updZMeas (zoneIn .alarm node) fun m => { m with dc := { history := 255, filtered := true } }
     s.zone.state = .alarm ∧ zoneHeld s = false ∧ purgePermit s = true) ∧
    (∀ st ∈ ([.purging, .inert, .ready, .running] : List ZoneState), zoneHeld (raiseRow (zoneIn st node) .at1) = true) ∧
    (let s := raiseRow (zoneIn .running node) .at2
     zoneHeld s = false ∧ s.zone.state = .running ∧ chamberTripped s = true) ∧
    (zoneIn .purging node).zmeas.coInert.filtered = false ∧
    (updZMeas (zoneIn .inert node) fun m => { m with coInert := on }).zmeas.coInert.filtered = true ∧
    (let s := updZMeas (zoneIn .running node) fun m => { m with dc := on }
     s.zone.state = .running ∧ runPermit s = true) ∧
    purgePermit (zoneIn .alarm node) = false ∧
    (∀ st ∈ ([.air, .ready, .lockout, .alarm, .fire] : List ZoneState), (zoneIn st node).zone.state = st) ∧
    (let s := zoneIn .running (slotOf { rec0 with stage := .waiting })
     feedPermit s = true ∧ s.zone.queue = p1 :: []) ∧ feedPermit node = false := by decide +kernel

theorem witness_TimersOfFireDwellAndInhibit :
    (let s := updDetector (at_ 60000 node) 3 fun d => { d with active := true, onset := some 0, persistUntil := some 3000 }
     inService s = true ∧ s.fire.det[3].active = true ∧ s.fire.det[3].persistUntil = some 3000 ∧ 3000 ≤ nodeCount s ∧
      nodeCount { s with now := 59999 } < 3000) ∧
    (let s := updFire (at_ 62000 node) fun f => { f with reformUntil := some 62000 }
     s.fire.reformUntil = some 62000 ∧ 62000 ≤ s.now ∧ (at_ 61999 node).now < 62000) ∧
    (let s := updTimer (at_ 200 node) 0 fun _ => { state := .timing, elapsed := 2, stepFrom := 0 }
     timerDef s 0 = some { number := 0, input := { kind := some .general, index := some 0, positive := true }, preset := 3 } ∧
      s.timers[0].state = .timing ∧ s.timers[0].stepFrom + 10 ≤ nodeCount s ∧ nodeCount { s with now := 199 } < s.timers[0].stepFrom + 10 ∧
      node.timers[0].state ≠ .timing) ∧
    (let s := updRow (at_ 2000 node) (.ln1 11) fun x => { x with inhibit := some 2000 }
     inService s = true ∧ (rowState s (.ln1 11)).inhibit = some 2000 ∧ 2000 ≤ s.now ∧ (at_ 1999 node).now < 2000) ∧
    (let l : Literal := { kind := some .peerZoneRunning, index := some 0, positive := true }
     let s := updPeer node 0 fun p => { p with state := .fresh, reported := some status1 }
     s.peers[0].reported = some status1 ∧ status1.zoneAge.toNat < 259 ∧ 258 ≤ status1.zoneAge.toNat ∧
      literalHolds s s.timers l = true ∧ node.timers[0].state = .idle) ∧
    ((cfg node).timers.map TimerDef.number = [0] ∧ timerDef node 15 = none ∧
      ∀ t ∈ (cfg node).timers, t.number < 16 ∧ 1 ≤ t.preset ∧ t.input.kind ≠ some .dwell) ∧
    (let fed (positive : Bool) : TimerDef := { number := 1, input := { kind := some .dwell, index := some 0, positive := positive }, preset := 1 }
     let chained (positive : Bool) : State :=
       { node with
         loader := { node.loader with
           image := some { lineId := 7, period := .p100, body := { bodyExample with timers := fed positive :: bodyExample.timers } } }
         zmeas := { node.zmeas with g := node.zmeas.g.set 0 { history := 255, filtered := true } }
         timers := node.timers.set 0 { state := .done, elapsed := 3, stepFrom := 0 } }
     timerDef (chained true) 1 = some (fed true) ∧ (cfg (chained true)).timers.map TimerDef.number = [1, 0] ∧
      literalHolds (chained true) (timersAfter (chained true) (chained true).timers) (fed true).input = true ∧
      (timersAfter (chained true) (chained true).timers)[1].state = .timing ∧
      literalHolds (chained false) (timersAfter (chained false) (chained false).timers) (fed false).input = false) := by decide +kernel

/-- Station 9's entry in a state, its last frame with sequence 2 at node time 0. -/
def peerIn (st : PeerState) : State := updPeer (at_ 98 node) 0 fun p => { p with state := st, lastSeq := some 2, lastArrival := some 0, early := 1, regular := 3 }

theorem witness_StatusIsJudged :
    (∀ st ∈ ([.fresh, .suspect, .incompatible] : List PeerState),
      heardBroadcast (peerIn st) all9 = true ∧ watchIndex (peerIn st) 9 = some 0 ∧ (peerIn st).peers[0].state = st ∧
        st ≠ .absent ∧ st ≠ .stale ∧ (peerIn st).peers[0].lastSeq = some 2) ∧
    (∀ st ∈ ([.absent, .stale] : List PeerState), heardBroadcast (peerIn st) all9 = true ∧ (peerIn st).peers[0].state = st) ∧
    ((2 - 2 : Byte) = 0 ∧ 128 ≤ ((130 : Byte) - 2).toNat ∧ 1 ≤ ((3 : Byte) - 2).toNat ∧ ((129 : Byte) - 2).toNat ≤ 127) ∧
    (status1.period = node.loader.period ∧ status1.mode ≠ .configFault ∧ { status1 with period := .p50 }.period ≠ node.loader.period) ∧
    (((49 : BitVec 32) - 0).toNat < Config.period .p100 / 4 ∧ ¬((50 : BitVec 32) - 0).toNat < Config.period .p100 / 4) ∧
    (status1.fireSections &&& ownSections node ≠ 0 ∧ { status1 with thermalSections := 1 }.thermalSections &&& ownSections node ≠ 0) ∧
    (let credit : TimerDef := { number := 0, input := { kind := some .peerZoneRunning, index := some 0, positive := true }, preset := 600 }
     let l := { node.loader with image := some { lineId := 7, period := .p100, body := { bodyExample with timers := [credit] } } }
     let s := updTimer { peerIn .fresh with loader := l } 0 fun _ => { state := .timing, elapsed := 259, stepFrom := 0 }
     let sDone := updTimer s 0 fun _ => { state := .done, elapsed := 600, stepFrom := 0 }
     sDone.timers[0].state = .done ∧ status1.zoneAge.toNat < sDone.timers[0].elapsed ∧ timerDef sDone 0 = some credit ∧
      heardBroadcast s all9 = true ∧ timerDef s 0 = some credit ∧ status1.zoneState = .running ∧ status1.zonePresent = true ∧
      s.timers[0].state ≠ .idle ∧ status1.zoneAge.toNat < s.timers[0].elapsed) ∧
    (let p := { status1 with fireSections := 0 }
     p.fireSections &&& ownSections node = 0 ∧ (acceptStatus (peerIn .fresh) 3 p { (peerIn .fresh).peers[0] with early := 0 }).state = .fresh) ∧
    (∀ others ∈ ([[9, 2], [2, 3], [2, 3, 4, 6]] : List (List Addr)),
      let s := updCauses (raiseRow (peerIn .fresh) .fd5) fun c => { c with remoteFire := { sections := 1, originators := others } }
      raised s (remoteRow .fire) = true ∧ (remoteOf s .fire).originators = others ∧ (acceptStatus s 3 status1 { s.peers[0] with early := 0 }).state = .fresh) := by
  decide +kernel

theorem witness_TripRaisesRemoteRow :
    heardBroadcast node all9 = true ∧ (1 : Sections) ≠ 0 ∧ raised node .fd5 = false ∧
    (let s := updCauses (raiseRow node .th3) fun c => { c with remoteThermal := { sections := 1, originators := [9, 12, 2, 3] } }
     heardBroadcast s all9 = true ∧ raised s (remoteRow .thermal) = true ∧ 9 ∈ (remoteOf s .thermal).originators) ∧
    (let s := updCauses (raiseRow node .fd5) fun c => { c with remoteFire := { sections := 1, originators := [12, 2, 3] } }
     raised s (remoteRow .fire) = true ∧ 9 ∉ (remoteOf s .fire).originators ∧ (remoteOf s .fire).originators.length < 4) ∧
    (let s := updCauses (raiseRow node .fd5) fun c => { c with remoteFire := { sections := 1, originators := [12, 2, 3, 4] } }
     9 ∉ (remoteOf s .fire).originators ∧ 4 ≤ (remoteOf s .fire).originators.length) ∧
    (∀ cond ∈ [true, false],
      let s := updRow (raiseRow node .fd5) .fd5 fun x => { x with condition := cond, acked := true }
      heardBroadcast s all9 = true ∧ raised s (remoteRow .fire) = true ∧ (rowState s (remoteRow .fire)).condition = cond ∧
        (rowState s (remoteRow .fire)).acked = true) := by decide +kernel

theorem witness_PeerAndStatusDeadlines :
    (let s := updPeer (at_ 800 node) 11 fun p => { p with state := .suspect, staleAt := some 800 }
     800 ≤ s.now ∧ inService s = true ∧ s.peers[11].staleAt = some 800 ∧ s.peers[11].state = .suspect) ∧
    { at_ 800 node with startUntil := some 800 }.startUntil = some 800 ∧
    (let s := busIs (fun u => { u with statusDueAt := some 800 }) (at_ 800 node)
     s.bus.statusDueAt = some 800 ∧ s.bus.statusPending = false ∧
      { s with loader := faulted.loader }.loader.mode = .configFault ∧ inService s = true) ∧
    (let s := busIs (fun u => { u with statusPending := true, watchUntil := some 800 }) (at_ 800 node)
     s.bus.statusPending = true ∧ s.bus.watchUntil = some 800) := by decide +kernel

theorem witness_AttemptTakesFirstSource :
    inService node = true ∧ node.bus.attempt = none ∧ node.bus.backoffUntil = none ∧
    (busIs (fun u => { u with tripFire := some 8 }) node).bus.tripFire = some 8 ∧
    (let s := busIs (fun u => { u with tripThermal := some 4 }) node; s.bus.tripFire = none ∧ s.bus.tripThermal = some 4) ∧
    (let s := busIs (fun u => { u with statusPending := true }) node
     s.bus.tripFire = none ∧ s.bus.tripThermal = none ∧ s.bus.statusPending = true) ∧
    (let s := busIs (fun u => { u with handover := [{ dest := 9, body := .landed p1 }] }) node
     s.bus.statusPending = false ∧ s.bus.handover = { dest := 9, body := .landed p1 } :: []) ∧
    ((repliesOf 1 node).bus.handover = [] ∧ (repliesOf 1 node).bus.replies ≠ [] ∧ node.bus.replies = []) ∧
    (busIs (fun u => { u with backoffUntil := some 8 }) node).bus.backoffUntil ≠ none ∧
    (busIs (fun u => { u with attempt := some ⟨.trip .fire 8, 0, true⟩ }) node).bus.attempt ≠ none ∧
    (hasZone zoneless = false ∧ hasZone node = true ∧ node.loader.mode = .operating ∧ maintained.loader.mode = .maintenance) ∧
    (raised (raiseRow node .fd4) .fd4 = true ∧ raised node .fd1 = false ∧ raised node .fd2 = false ∧ raised node .fd3 = false ∧
      raised node .fd4 = false) ∧
    reacts (raiseRow node .fd1) .fd1 = true ∧
    leadingCause (raiseRow (raiseRow node .at2) (.th1 3)) = some (.th1 3) ∧ p1.length ≤ 12 ∧ offer1.id.length ≤ 12 := by decide +kernel

theorem witness_ranking_names_every_class (c : CauseClass) (h : c ≠ .fire) : c ∈ (cfg node).ranking.toList := by
  cases c <;> first | exact absurd rfl h | decide +kernel

theorem witness_AttemptsEnd :
    (busIs (fun u => { u with attempt := some ⟨.trip .fire 8, 0, true⟩ }) node).bus.attempt = some ⟨.trip .fire 8, 0, true⟩ ∧
    (let s := busIs (fun u => { u with backoffUntil := some 8 }) (at_ 8 node)
     s.bus.backoffUntil = some 8 ∧ 8 ≤ s.now ∧ { s with now := 7 }.now < 8) ∧
    (∀ f ∈ ([.trip .fire 8, .trip .thermal 8, .status status1, .handover { dest := 9, body := .offer { offer1 with originBay := 0 } },
        .handover { dest := 9, body := .landed p1 }, .reply { dest := 5, kind := 8, seq := 1, result := .done, payload := .none }] :
        List TxFrame),
      let s := updHandover
        (busIs (fun u => { u with attempt := some ⟨f, 0, true⟩, tripFire := some 12, tripThermal := some 8 }) node) 0
        fun x => { x with entry := .queued p1 9 0 }
      inService s = true ∧ s.bus.attempt = some ⟨f, 0, true⟩ ∧ s.bus.tripFire = some 12 ∧ s.bus.tripThermal = some 8 ∧
        s.handover[0].entry = .queued p1 9 0) ∧
    (let a : Attempt := ⟨.handover { dest := 9, body := .landed p1 }, 0, false⟩
     (busIs (fun u => { u with attempt := some a }) node).bus.attempt = some a) ∧
    (let a : Attempt := ⟨.status (faultStatus faulted), 0, true⟩
     let s := busIs (fun u => { u with attempt := some a }) faulted
     s.loader.mode = .configFault ∧ s.bus.attempt = some a) := by decide +kernel

theorem witness_DiscardedFramesChangeNothing :
    watchIndex node 8 = none ∧ ([7, 8, 5] : List Byte).length ≠ 8 + (byteAt [7, 8, 5] 5).toNat ∧
    (let raw : List Byte := [7, 8, 5, 1, 3, 1, 18, 0, 0]; crc16 (raw.take (raw.length - 2)) ≠ word16At raw (raw.length - 2)) := by
  decide +kernel

/-- A node that holds a pack sensed in bay 0. -/
def sensed : State := bayIn .loaded node

theorem witness_AdmitChecksAndRecords :
    requestTaken sensed ask = true ∧ bayArg sensed 0 = some 0 ∧ bayArg sensed 3 = some 3 ∧ bayArg sensed 4 = none ∧
    (let body := { bodyExample with bayCount := 3 }
     let l := { sensed.loader with image := some { lineId := 7, period := .p100, body := body } }
     bayArg ({ sensed with loader := l } : State) 3 = none) ∧
    sensed.bays[0].state = .loaded ∧ node.bays[0].state ≠ .loaded ∧
    ((0 : Byte).toNat ≤ 3 ∧ 1 ≤ (96 : Byte).toNat ∧ (96 : Byte).toNat ≤ 250 ∧ (1000000 : BitVec 24).toNat ≤ 1000000 ∧ 1 ≤ p1.length ∧
      p1.length ≤ 12 ∧ ∀ c ∈ p1, 32 ≤ c.toNat ∧ c.toNat ≤ 126) ∧
    (¬(4 : Byte).toNat ≤ 3 ∧ ¬1 ≤ (0 : Byte).toNat ∧ ¬(251 : Byte).toNat ≤ 250 ∧ ¬(1000001 : BitVec 24).toNat ≤ 1000000) ∧
    recordOfId sensed p1 = none ∧ recordOfId (withRecord { rec0 with stage := .missing } sensed) p1 ≠ none ∧
    sensed.packs.records.length < 24 ∧
    (let s := { sensed with packs := { sensed.packs with records := List.replicate 24 { rec0 with stage := .unidentified, id := none } } }
     recordOfId s p1 = none ∧ 24 ≤ s.packs.records.length) ∧
    (96 * 1000 / 10 ≤ 65534 ∧ 96 * 1500 / 10 ≤ 65534 ∧ 65534 < 250 * 2700 / 10) := by decide +kernel

theorem witness_StartAndReject :
    requestTaken (bayIn .admitted node) ask = true ∧ bayArg node 4 = none ∧ bayArg node 3 = some 3 ∧ bayArg node 0 = some 0 ∧
    (let s := updMeas (bayIn .admitted (withRecord rec0 node)) 0 fun m =>
       { m with v := { status := .valid, value := some 35000, run := 0, clamp := false }
                i := { status := .held, value := some 0, run := 3, clamp := false } }
     requestTaken s ask = true ∧ s.bays[0].state = .admitted ∧ connectPermit s 0 = true) ∧
    connectPermit (bayIn .admitted node) 0 = false ∧
    (∀ st ∈ ([.empty, .loaded, .quarantine, .admitted, .connecting, .discharging, .resting, .held, .safe, .offering, .releasing] :
        List BayState),
      let s := bayIn st (withRecord rec0 node)
      requestTaken s ask = true ∧ s.bays[0].state = st ∧ recordOfBay s 0 = some rec0) ∧
    holdsPack (bayIn .admitted node) 0 = true ∧ holdsPack (bayIn .releasing node) 0 = true ∧
    (∀ d ∈ ([1, 9] : List Addr),
      let r := { rec0 with dest := some d }
      let s := bayIn .releasing (withRecord r node)
      requestTaken s ask = true ∧ recordOfBay s 0 = some r ∧ r.id = some p1 ∧ s.loader.address = 1 ∧ s.bus.handover.length < 8) := by
  decide +kernel

theorem witness_ClearsAndResolveLost :
    requestTaken node ask = true ∧ bayArg node 4 = none ∧ bayArg node 0 = some 0 ∧ node.bays[0].state ≠ .quarantine ∧
    (ppOn (bayIn .quarantine (withRecord rec0 node))).meas[0].pp.filtered = true ∧
    (let s := bayIn .quarantine (withRecord rec0 node)
     requestTaken s ask = true ∧ s.bays[0].state = .quarantine ∧ s.meas[0].pp.filtered = false ∧ recordOfBay s 0 = some rec0) ∧
    (∀ r ∈ (withRecord rec0 node).packs.records, r.stage ≠ .unidentified) ∧
    (let r := { rec0 with stage := .unidentified, id := none }
     (withRecord r node).packs.records = [] ++ r :: [] ∧ r.stage = .unidentified) ∧
    recordOfId node p1 = none ∧ recordOfId (withRecord rec0 node) p1 = some rec0 ∧ rec0.stage ≠ .missing ∧
    recordOfId (withRecord { rec0 with stage := .missing } node) p1 = some { rec0 with stage := .missing } := by decide +kernel

/-- A zone whose chamber door is closed and whose gas figures are sound. -/
def closed (st : ZoneState) : State := updZMeas (zoneIn st node) fun m => { m with dc := { history := 255, filtered := true } }

theorem witness_ZoneRequests :
    (requestTaken zoneless ask = true ∧ zoneCfg zoneless = none) ∧
    (∀ st ∈ ([.air, .purging, .inert, .ready, .running, .alarm, .fire, .lockout] : List ZoneState),
      requestTaken (closed st) ask = true ∧ zoneCfg (closed st) = some zoneExample ∧ (closed st).zone.state = st ∧
        (closed st).zone.queue = [] ∧ claimCount (closed st) = 0) ∧
    (purgePermit (closed .air) = true ∧ zoneHeld (closed .air) = false) ∧ purgePermit node = false ∧
    zoneHeld (raiseRow (closed .air) .at1) = true ∧ runPermit (closed .ready) = true ∧ runPermit (zoneIn .ready node) = false ∧
    (updZone (closed .ready) fun z => { z with queue := [p1] }).zone.queue ≠ [] ∧
    claimCount (updHandover (closed .ready) 1 fun x => { x with claim := true }) ≠ 0 := by decide +kernel

theorem witness_AckAndReset :
    requestTaken node ask = true ∧ 6 < (7 : Byte).toNat ∧ ackScope 0 = some none ∧ ackScope 1 = some (some .fire) ∧
    ackScope 6 = some (some .account) ∧
    (let s := raiseRow node (.th2 3)
     raised s (.th2 3) = true ∧ (rowState s (.th2 3)).acked = false ∧ rowClass (.th2 3) = .thermal) ∧
    (let s := updRow (raiseRow node .fd5) .fd5 fun x => { x with acked := true, condition := false }
     latched .fd5 = true ∧ raised s .fd5 = true ∧ (rowState s .fd5).condition = false ∧ (rowState s .fd5).acked = true ∧
      (s.causes.log[0]?.map LogEntry.number = some 1 ∧ (rowState s .fd5).logEntry = some 1)) ∧
    (let s := raiseRow node .at2; s.causes.log[0]?.map LogEntry.number = some 1 ∧ (rowState s .at2).acked = false) ∧
    raised node .th3 = false := by decide +kernel

theorem witness_MaintenanceMode :
    (requestTaken node ask = true ∧ node.loader.mode = .operating) ∧
    (requestTaken maintained ask = true ∧ maintained.loader.mode = .maintenance) ∧
    (warming.loader.mode = .warmReset ∧ warming.loader.restart = some { endAt := 100, terminal := 5, seq := 3 } ∧ 100 ≤ warming.now) ∧
    loading.loader.mode = .starting ∧ faulted.loader.mode = .configFault := by decide +kernel

theorem witness_InhibitChecksInOrder :
    (requestTaken node ask = true ∧ node.loader.mode ≠ .maintenance) ∧
    (requestTaken maintained ask = true ∧ maintained.loader.mode = .maintenance) ∧
    ((0 : Byte).toNat = 0 ∧ 66 < (67 : Byte).toNat) ∧
    (rowPosition .fd1 = 1 ∧ rowConfigured maintained .fd1 = true ∧ rowClass .fd1 ≠ .line ∧ rowClass .fd1 ≠ .account) ∧
    (∃ r ∈ allRows, rowPosition r = 66 ∧ rowClass r = .account) ∧
    (rowClass (.ln1 0) = .line ∧ rowConfigured maintained (.ln1 1) = true ∧ rowConfigured maintained (.ln1 2) = false) ∧
    (1 ≤ (1 : BitVec 16).toNat ∧ (1800 : BitVec 16).toNat ≤ 1800 ∧ ¬(1801 : BitVec 16).toNat ≤ 1800 ∧ ¬1 ≤ (0 : BitVec 16).toNat) ∧
    ((rowState maintained (.ln1 0)).inhibit = none ∧ (inhibitedRows maintained).length < 4) ∧
    (let four := [Row.ln2, .ac5, .ac6 0, .ln1 1].foldl (fun s r => updRow s r fun x => { x with inhibit := some 2000 }) maintained
     requestTaken four ask = true ∧ (rowState four (.ln1 0)).inhibit = none ∧ 4 ≤ (inhibitedRows four).length ∧
      (rowState four .ln2).inhibit ≠ none) := by decide +kernel

theorem witness_QueriesReport :
    requestTaken node ask = true ∧ recordOfId node p1 = none ∧ recordOfId (withRecord rec0 node) p1 = some rec0 ∧ bayArg node 4 = none ∧
    bayArg node 3 = some 3 ∧ (bayIn .held node).bays[0].state = .held ∧ (bayIn .quarantine node).bays[0].state = .quarantine ∧
    ((0 : Byte).toNat = 0 ∧ 24 < (25 : Byte).toNat ∧ 1 ≤ (1 : Byte).toNat ∧ (24 : Byte).toNat ≤ 24 ∧ 66 < (67 : Byte).toNat ∧
      (66 : Byte).toNat ≤ 66) ∧
    node.causes.log = [] ∧
    (let s := raiseRow (raiseRow node .fd1) .at2
     (s.causes.log.head?.map LogEntry.number = some 1 ∧ s.causes.log.getLast?.map LogEntry.number = some 2) ∧
      32767 < ((2 : BitVec 16) - 3).toNat ∧ ((2 : BitVec 16) - 2).toNat ≤ 32767 ∧ ((2 : BitVec 16) - 32771).toNat ≤ 32767) := by
  decide +kernel

theorem witness_QueryCountsReports : requestTaken node ask = true ∧ custodyLeft node = custodyRight node := by decide +kernel

theorem witness_OutputsFollowStates :
    hasZone zoneless = false ∧ hasZone node = true ∧
    (∀ st ∈ ([.air, .purging, .inert, .ready, .running, .alarm, .fire, .lockout] : List ZoneState), (zoneIn st node).zone.state = st) ∧
    (∀ s ∈ [loading, faulted, warming, zoneIn .fire warming, zoneIn .lockout warming], OutputsSound s ∧ inService s = false) ∧
    loading.loader.mode ≠ .warmReset ∧ warming.zone.state ≠ .fire ∧
    ((zoneIn .fire warming).loader.mode = .warmReset ∧ hasZone (zoneIn .fire warming) = true) ∧
    OutputsSound (updZone (zoneIn .running node) fun z => { z with fpUntil := some 1000 }) := by
  unfold OutputsSound
  decide +kernel

theorem witness_PermitsFollowTheirTerms :
    (∀ t ∈ (cfg node).siteTerms, t.permit ≠ some .purge) ∧
    (let body := { bodyExample with siteTerms := [{ permit := some .run, literals := [⟨some .general, some 0, true⟩] }] }
     let s := { node with loader := { node.loader with image := some { lineId := 7, period := .p100, body := body } } }
     ∃ t ∈ (cfg s).siteTerms, t.permit = some .run) ∧
    inService loading = false ∧ inService node = true ∧
    (let s := updPeer node 11 fun p => { p with state := .fresh, reported := some status1 }
     s.peers[11].state = .fresh ∧ s.peers[11].reported = some status1 ∧ s.peers[0].state ≠ .fresh ∧
      literalHolds s s.timers ⟨some .peerAccepting, some 11, true⟩ = true ∧
      literalHolds s s.timers ⟨some .peerLockout, some 11, false⟩ = true ∧
      literalHolds s s.timers ⟨some .peerLockout, some 0, false⟩ = false) ∧
    (∀ k ∈ ([.peerFresh, .peerZoneReady, .peerZoneRunning, .peerAccepting, .peerTripFree, .peerLockout] : List LiteralKind),
      peerKind (some k) = true) := by decide +kernel

theorem witness_RowsAreRaised :
    (latched .fd1 = true ∧ (∀ x ∈ allRows, ¬(latched x = true ∧ raised node x = true))) ∧
    (let s := updCauses (raiseRow node .fd1) fun c => { c with episode := 65535 }
     s.causes.episode = 65535 ∧ raised s .fd1 = true) ∧
    latched (.ln1 0) = false ∧ node.causes.log.length < 16 ∧
    ((List.replicate 16 Row.at2).foldl raiseRow node).causes.log.length = 16 ∧ raised node .at2 = false ∧
    (rowConfigured zoneless .fd1 = false ∧ rowConfigured node (.ln1 2) = false ∧ ∀ r ∈ [Row.fd1, .ac6 3, .ln1 1], rowConfigured node r = true) ∧
    (raised (raiseRow node (.el3 0)) (.el3 0) = true ∧ latched (.el3 0) = false ∧ raised (raiseRow node .at2) .at2 = true ∧
      latched .at2 = true) ∧
    (let s := updBay node 0 fun x => { x with mismatch := true }
     (handConditions s).isSome = true ∧ conditionOf s (.el4 0) = true ∧ (rowState s (.el4 0)).condition = false) ∧
    (let s := updRow (raiseRow node (.el4 0)) (.el4 0) fun x => { x with condition := true }
     conditionOf s (.el4 0) = false ∧ (rowState s (.el4 0)).condition = true) ∧
    (let s := { node with startUntil := some 1 }; handConditions s = none ∧ conditionOf s .fd1 = (rowState s .fd1).condition) ∧
    (let t := after (.discreteArrival [(.kf 1, true), (.kf 0, true)]) node
     latched (.el4 0) = true ∧ raised t (.el4 0) = true ∧ raised t (.el4 1) = true ∧
      ∀ r ∈ allRows, latched r = true → raised t r = true → rowPosition (.el4 0) ≤ rowPosition r) := by decide +kernel

theorem witness_LoweringClosesItsEntry :
    let s := raiseRow (raiseRow node .fd1) (.ln1 0)
    (s.causes.log[1]?.map LogEntry.number = some 2 ∧ (rowState s (.ln1 0)).logEntry = some 2) ∧
      (s.causes.log[0]?.map LogEntry.number = some 1 ∧ (rowState s (.ln1 0)).logEntry ≠ some 1) := by decide +kernel

/-- R144 with the numbers wrapped: an entry of LN1 that carries the number of FD1's entry again stays open when FD1 is lowered. -/
theorem test_lowering_leaves_same_number :
    let s := raiseRow (updCauses (raiseRow node .fd1) fun c => { c with nextEntry := 1 }) (.ln1 0)
    s.causes.log.map LogEntry.number = [1, 1] ∧
      (lowerRow s .fd1).causes.log.map (fun e => e.cleared.isSome) = [true, false] := by decide +kernel

theorem witness_EveryCommandAnswers :
    node.pending = [] ∧ Instr.run ask ≠ .coldReset 1 ∧ (at_ 1999 node).pending = [] ∧
      (1999 + 1) % 20 = 0 ∧ (BitVec.ofNat 32 ((1999 + 1) / 20)).toNat % 100 = 0 := by decide +kernel

theorem witness_ModeAndImageChange :
    (after (.coldReset 1) node).loader.mode ≠ node.loader.mode ∧ (after (.loadEnd mem5 fieldsExample) loading).loader.mode = .operating ∧
    (after (.loadEnd [] fieldsExample) loading).loader.mode = .configFault ∧ (after (.maintOn ask) node).loader.mode = .maintenance ∧
    (after (.maintOff ask) maintained).loader.mode = .operating ∧ (after (.restart ask) node).loader.mode = .warmReset ∧
    (after .warmResetEnd warming).loader.mode = .operating := by decide +kernel

/-- The command answers a next state. -/
def goes (c : Instr) (s : State) : Bool :=
  match exec c s with
  | .next _ => true
  | .fault _ | .refused _ => false

theorem exec_of_goes {c : Instr} {s : State} (h : goes c s = true) : exec c s = .next (after c s) := by
  unfold goes at h
  unfold after
  split at h <;> simp_all

theorem witness_CountersMoveAtTheirCommands :
    let s := withRecord { rec0 with stage := .missing } node
    exec (.landed from9 p1) s = .next (after (.landed from9 p1) s) ∧ (after (.landed from9 p1) s).packs.counters.handedOut = 1 ∧
      Instr.landed from9 p1 ≠ .coldReset 1 := ⟨exec_of_goes (by decide +kernel), by decide +kernel⟩

theorem witness_SequenceAdvancesAtLeaving :
    (let s := busIs (fun u => { u with attempt := some ⟨.trip .fire 8, 255, true⟩, sequence := 255 }) node
     s.bus.attempt ≠ none ∧ (after .frameLeaves s).bus.sequence = 0) ∧
    node.bus.attempt = none ∧ Instr.collision ≠ .frameLeaves ∧ exec .collision node = .next (after .collision node) :=
  ⟨by decide +kernel, by decide +kernel, by decide +kernel, exec_of_goes (by decide +kernel)⟩

theorem witness_NothingIsTakenOutOfService :
    inService loading = false ∧ inService faulted = false ∧ inService warming = false ∧ isArrival (.spArrival 1) = true ∧
      headerOf (.run ask) ≠ none := by decide +kernel

theorem witness_RequestsAreTakenIn :
    headerOf (.run ask) = some ask ∧ requestKind (.run ask) = some 8 ∧ heardOwn node ask2 = false ∧
    (heardOwn node ask8 = true ∧ isTerminal node ask8.sender = false ∧ node.bus.replies.length < 4) ∧
    (heardOwn (repliesOf 4 node) ask = true ∧ 4 ≤ (repliesOf 4 node).bus.replies.length ∧ (repliesOf 3 node).bus.replies.length < 4) ∧
    (heardOwn node ask = true ∧ isTerminal node ask.sender = true ∧ Instr.run ask ≠ .restart ask) ∧ requestTaken node ask = true := by
  decide +kernel

theorem witness_SilentNodeSendsStatusAlone :
    (inService faulted = false ∧ faulted.bus.tripFire = none ∧ faulted.bus.tripThermal = none ∧ faulted.bus.handover = [] ∧
      faulted.bus.replies = []) ∧
    (let s := busIs (fun u => { u with statusPending := true }) faulted
     s.loader.mode = .configFault ∧ s.bus.attempt = none ∧ s.bus.backoffUntil = none ∧ s.bus.statusPending = true) ∧
    faulted.bus.statusPending = false ∧ loading.loader.mode = .starting ∧ warming.loader.mode = .warmReset := by decide +kernel

/-- A running zone with a slot FEEDING, an internal release in bay 1, a log entry and a timer that runs: every invariant holds in it. -/
def busy : State :=
  let s := updZone (zoneIn .running (raiseRow node (.ln1 0))) fun z => { z with queue := [p1] }
  let s := withRecord { rec0 with stage := .feeding } s
  let s := updPacks s fun t =>
    { t with
      records := t.records ++ [{ rec0 with id := some [66], bay := some 1, dest := some 1 }], counters := { t.counters with admitted := 2 } }
  let s := updHandover s 1 fun x => { x with claim := true }
  let s := updBay s 1 fun x => { x with state := .releasing }
  { updTimer s 0 fun _ => { state := .done, elapsed := 3, stepFrom := 30 } with pending := [.run ask] }

theorem busy_steps : step busy = .next (after (.run ask) { busy with pending := [] }) :=
  Eq.trans (b := exec (.run ask) { busy with pending := [] }) rfl (exec_of_goes (by decide +kernel))

theorem witness_LatchedRowsStayRaised :
    (let s := raiseRow node .fd1
     exec (.restart ask) s = .next (after (.restart ask) s) ∧ latched .fd1 = true ∧ raised s .fd1 = true ∧
      Instr.restart ask ≠ .reset ask ∧ Instr.restart ask ≠ .coldReset 1) ∧
    (SelfClearingSound busy ∧ raised busy (.ln1 0) = true ∧ step busy = .next (after (.run ask) { busy with pending := [] })) := by
  refine ⟨⟨exec_of_goes (by decide +kernel), by decide +kernel⟩, ?_, by decide +kernel, busy_steps⟩
  intro r
  exact (by decide +kernel : ∀ r ∈ allRows, latched r = false → raised busy r = (rowState busy r).condition) r (mem_allRows r)

theorem witness_CustodyBalanceIsKept :
    (CustodyBalanced busy ∧ step busy = .next (after (.run ask) { busy with pending := [] })) ∧ requestTaken busy ask = true :=
  ⟨⟨by unfold CustodyBalanced; decide +kernel, busy_steps⟩, by decide +kernel⟩

theorem witness_LockoutAndKeptFireStand :
    (LockedOut (zoneIn .lockout node) ∧ Instr.run ask ≠ .coldReset 1 ∧
      exec (.run ask) (zoneIn .lockout node) = .next (after (.run ask) (zoneIn .lockout node))) ∧
    (zoneIn .lockout node).pending = [] ∧ requestTaken (zoneIn .lockout node) ask = true :=
  ⟨⟨by unfold LockedOut; decide +kernel, by decide +kernel, exec_of_goes (by decide +kernel)⟩, by decide +kernel⟩

theorem witness_LockoutAndKeptFireStand_fire :
    (FireKept keptFire ∧ Instr.reformationTimerExpiry ≠ .coldReset 1 ∧ keptFire.fire.reformUntil = some 62000 ∧ keptFire.now < 62000 ∧
      exec .reformationTimerExpiry keptFire = .next keptFire) ∧
    keptFire.pending = [] :=
  ⟨⟨by unfold FireKept; decide +kernel, by decide +kernel, by decide +kernel, by decide +kernel, rfl⟩, by decide +kernel⟩

theorem witness_RunningZoneStaysClear :
    RunsClear busy ∧ busy.zone.state = .running ∧ step busy = .next (after (.run ask) { busy with pending := [] }) :=
  ⟨by unfold RunsClear; decide +kernel, by decide +kernel, busy_steps⟩

/-- The busy node with a full queue behind its FEEDING slot: WAITING, RESERVED and an internal IN_TRANSIT, and no claim. -/
def queued : State :=
  let s := updZone busy fun z => { z with queue := [p1, [67], [68], [69]] }
  let s := updHandover (updBay s 1 fun x => { x with state := .safe }) 1 fun x => { x with claim := false }
  updPacks s fun t =>
    { t with
      records := t.records ++
        [{ rec0 with id := some [67], stage := .waiting }, { rec0 with id := some [68], stage := .reserved, origin := some 9 },
         { rec0 with id := some [69], stage := .inTransit, origin := some 1 }] }

theorem witness_PlacesAreKept :
    (PlacesSound busy ∧ busy.bays[1].state = .releasing ∧ (recordOfBay busy 1).bind PackRecord.dest = some busy.loader.address) ∧
    (TableSound queued ∧ QueueSound queued ∧ PlacesSound queued ∧ queued.zone.queue.length = 4) := by
  refine ⟨by unfold PlacesSound; decide +kernel, by unfold TableSound; decide +kernel,
    ⟨by decide +kernel, ⟨[p1, [67]], [[68], [69]], by decide +kernel, by decide +kernel, by decide +kernel⟩, by decide +kernel, ?_⟩,
    by unfold PlacesSound; decide +kernel, by decide +kernel⟩
  have h : ∀ id ∈ queued.zone.queue, ∀ r ∈ recordOfId queued id, r.stage = .inTransit → r.origin = some queued.loader.address := by
    decide +kernel
  exact fun id hid r hr => h id hid r hr

theorem witness_TablesKeepTheirSizes : TableSound busy ∧ SizesSound busy ∧ LogSound busy ∧ busy.causes.log.length = 1 := by
  refine ⟨by unfold TableSound; decide +kernel, by unfold SizesSound; decide +kernel, ?_, by decide +kernel⟩
  intro k e he
  have hb : busy.causes.log = (raiseRow node (.ln1 0)).causes.log := by decide +kernel
  rw [hb] at he
  match k with
  | 0 =>
    have h0 : (raiseRow node (.ln1 0)).causes.log[0]? = some ⟨1, 0, .ln1 0, 0, false, none⟩ := by decide +kernel
    rw [h0] at he; cases he; decide +kernel
  | k + 1 =>
    have hl : (raiseRow node (.ln1 0)).causes.log.length = 1 := by decide +kernel
    rw [List.getElem?_eq_none (by omega)] at he; cases he

theorem witness_DwellTimersStaySound : TimersSound busy ∧ (timerDef busy 0).isSome = true ∧ busy.timers[0].state = .done := by
  refine ⟨⟨by decide +kernel, by unfold DefsSound; decide +kernel, ?_⟩, by decide +kernel⟩
  intro d
  fin_cases d
  · exact (by decide +kernel : (3 : Nat) ≤ 3 ∧ (busy.timers[0].state = .done ↔ busy.timers[0].elapsed = 3) ∧
      (busy.timers[0].state = .idle → busy.timers[0].elapsed = 0))
  all_goals exact ⟨rfl, rfl⟩

theorem witness_DecodeInvertsEncode :
    (Instr.admitPack ask 3 p1 3 250 (some 1000000)).wellFormed = true ∧
      (encodeFrame (.admitPack ask 3 p1 3 250 (some 1000000))).isSome = true ∧ (Instr.status all9 status1).wellFormed = true ∧
      (encodeFrame (.status all9 status1)).isSome = true ∧ (Instr.offer from9 offer1).wellFormed = true ∧
      (encodeFrame (.offer from9 offer1)).isSome = true := by decide +kernel

end Sys2Proof.Machine.Tests
end

section
/-! SUPPORT. The pack table's count of records in custody under each table operation, and the balance of R61 through every command;
settles O40 and O53. -/

namespace Sys2Proof.Machine

variable {s t : State}

/-! ### Counting in a list of records -/

theorem countP_eraseP_of_find? {α : Type} {p : α → Bool} {l : List α} {r : α} (q : α → Bool) (h : l.find? p = some r) :
    (l.eraseP p).countP q + (if q r then 1 else 0) = l.countP q := by
  induction l with
  | nil => cases h
  | cons x xs ih =>
    by_cases hx : p x = true
    · obtain rfl : x = r := by simpa [hx] using h
      simp [hx, List.countP_cons]
    · have := ih (by simpa [hx] using h)
      simp only [List.eraseP_cons, hx, List.countP_cons]
      grind

theorem countP_modifyFirst_of_find? {α : Type} {p : α → Bool} {l : List α} {r : α} (q : α → Bool) (f : α → α)
    (h : l.find? p = some r) :
    (modifyFirst p f l).countP q + (if q r then 1 else 0) = l.countP q + if q (f r) then 1 else 0 := by
  induction l with
  | nil => cases h
  | cons x xs ih =>
    by_cases hx : p x = true
    · obtain rfl : x = r := by simpa [hx] using h
      simp only [modifyFirst, hx, if_true, List.countP_cons]
      omega
    · have := ih (by simpa [hx] using h)
      simp only [modifyFirst, hx, List.countP_cons]
      grind

theorem modifyFirst_of_find?_none {α : Type} {p : α → Bool} {l : List α} (f : α → α) (h : l.find? p = none) :
    modifyFirst p f l = l := by
  induction l with
  | nil => rfl
  | cons x xs ih =>
    obtain ⟨hx, hxs⟩ : ¬p x = true ∧ xs.find? p = none := by simpa using h
    simp [modifyFirst, hx, ih hxs]

/-! ### Records in custody -/

/-- The record counts on the right side of the balance (R61). -/
def inCustody (r : PackRecord) : Bool := decide (r.stage ≠ .reserved)

theorem inCustody_iff (r : PackRecord) : inCustody r = true ↔ r.stage ≠ .reserved := by simp [inCustody]

theorem custodyCount_eq_countP (s : State) : custodyCount s = s.packs.records.countP inCustody :=
  List.countP_eq_length_filter.symm

theorem custodyCount_addRecord (s : State) (r : PackRecord) :
    custodyCount (addRecord s r) = custodyCount s + if inCustody r then 1 else 0 := by
  simp [custodyCount_eq_countP, List.countP_cons]

/-- A removed record counts no more. -/
theorem custodyCount_eraseP {p : PackRecord → Bool} {r : PackRecord} (h : s.packs.records.find? p = some r) :
    custodyCount (updRecords s fun l => l.eraseP p) + (if inCustody r then 1 else 0) = custodyCount s := by
  simpa only [custodyCount_eq_countP, updRecords_packs_records] using countP_eraseP_of_find? inCustody h

/-- A rewritten record counts as it stands after the change. -/
theorem custodyCount_updRecordOfId {id : PackId} {r : PackRecord} (f : PackRecord → PackRecord) (h : recordOfId s id = some r) :
    custodyCount (updRecordOfId s id f) + (if inCustody r then 1 else 0) = custodyCount s + if inCustody (f r) then 1 else 0 := by
  simpa only [custodyCount_eq_countP, updRecordOfId_packs_records] using countP_modifyFirst_of_find? inCustody f h

theorem stage_of_recordOfBay {b : BayIdx} {r : PackRecord} (h : recordOfBay s b = some r) : r.stage = .atBay := by
  have := List.find?_some h
  simp only [isAtBay, decide_eq_true_eq] at this
  exact this.1

/-- The record of a bay is AT_BAY: it stays in custody unless it is made RESERVED. -/
theorem custodyCount_updRecordOfBay (s : State) (b : BayIdx) {f : PackRecord → PackRecord}
    (hf : ∀ r, r.stage = .atBay → (f r).stage ≠ .reserved) : custodyCount (updRecordOfBay s b f) = custodyCount s := by
  simp only [custodyCount_eq_countP, updRecordOfBay_packs_records]
  cases h : recordOfBay s b with
  | none => rw [modifyFirst_of_find?_none f h]
  | some r =>
    have hr := stage_of_recordOfBay h
    have := countP_modifyFirst_of_find? inCustody f h
    simpa [inCustody, hr, hf r hr] using this

/-- The records in custody are those of the six stages besides RESERVED (R61, R67). -/
theorem custodyCount_eq_stages (s : State) :
    custodyCount s = stageCount s .atBay + stageCount s .inTransit + stageCount s .missing + stageCount s .waiting +
      stageCount s .feeding + stageCount s .unidentified := by
  simp only [custodyCount_eq_countP, stageCount, ← List.countP_eq_length_filter]
  induction s.packs.records with
  | nil => rfl
  | cons r l ih =>
    simp only [List.countP_cons, ih]
    cases h : r.stage <;> simp [inCustody, h] <;> omega

/-! ### Ways to keep the balance -/

/-- The packs that left the node's custody by a counted way out (R61). -/
def custodyGone (s : State) : BitVec 32 :=
  s.packs.counters.handedOut + s.packs.counters.shredded + s.packs.counters.cleared + s.packs.counters.lost

theorem custodyBalanced_iff : CustodyBalanced s ↔ custodyLeft s = custodyGone s + BitVec.ofNat 32 (custodyCount s) := Iff.rfl

theorem custodyRight_eq_stages (s : State) :
    custodyRight s = custodyGone s + BitVec.ofNat 32
      (stageCount s .atBay + stageCount s .inTransit + stageCount s .missing + stageCount s .waiting + stageCount s .feeding +
        stageCount s .unidentified) := by
  rw [← custodyCount_eq_stages]
  rfl

/-- No pack enters or leaves custody. -/
theorem CustodyBalanced.stay (h : CustodyBalanced s) (hc : t.packs.counters = s.packs.counters)
    (hn : custodyCount t = custodyCount s) : CustodyBalanced t := by
  rw [custodyBalanced_iff] at h ⊢
  unfold custodyLeft custodyGone at h ⊢
  rw [hc, hn, h]

/-- The pack table is written in neither its counters nor its records. -/
theorem CustodyBalanced.of_table (h : CustodyBalanced s) (hc : t.packs.counters = s.packs.counters)
    (hr : t.packs.records = s.packs.records) : CustodyBalanced t :=
  h.stay hc (by rw [custodyCount_eq_countP, hr, custodyCount_eq_countP])

theorem CustodyBalanced.of_packs (h : CustodyBalanced s) (hp : t.packs = s.packs) : CustodyBalanced t :=
  h.of_table (by rw [hp]) (by rw [hp])

theorem CustodyBalanced.of_frame (h : CustodyBalanced s) (hf : ReactionFrame s t) : CustodyBalanced t := hf.custodyBalanced.2 h

/-- A pack enters custody and is counted on the left. -/
theorem CustodyBalanced.enter (h : CustodyBalanced s) (hl : custodyLeft t = custodyLeft s + 1) (hg : custodyGone t = custodyGone s)
    (hn : custodyCount t = custodyCount s + 1) : CustodyBalanced t := by
  rw [custodyBalanced_iff] at h ⊢
  rw [hl, hg, hn, h, BitVec.ofNat_add, BitVec.add_assoc]
  rfl

/-- A pack leaves custody and is counted on the right. -/
theorem CustodyBalanced.leave (h : CustodyBalanced s) (hl : custodyLeft t = custodyLeft s) (hg : custodyGone t = custodyGone s + 1)
    (hn : custodyCount t + 1 = custodyCount s) : CustodyBalanced t := by
  rw [custodyBalanced_iff] at h ⊢
  rw [hl, hg, h, ← hn, BitVec.ofNat_add, BitVec.add_assoc, BitVec.add_comm (BitVec.ofNat 32 (custodyCount t))]
  rfl

theorem CustodyBalanced.ite {c : Prop} [Decidable c] (ht : c → CustodyBalanced s) (hf : ¬c → CustodyBalanced t) :
    CustodyBalanced (if c then s else t) := by
  split
  · exact ht ‹_›
  · exact hf ‹_›

theorem settle_custodyBalanced (h : CustodyBalanced s) : CustodyBalanced (settle s) := h.of_frame (frame_settle s)

/-- A command's own effect on a condition, with the reactions that it sets off. -/
theorem CustodyBalanced.settleIf {c : Prop} [Decidable c] (h : CustodyBalanced s) (ht : CustodyBalanced t) :
    CustodyBalanced (if c then settle t else s) := .ite (fun _ => settle_custodyBalanced ht) fun _ => h

theorem updRecordOfBay_custodyBalanced (h : CustodyBalanced s) {b : BayIdx} {f : PackRecord → PackRecord}
    (hf : ∀ r, r.stage = .atBay → (f r).stage ≠ .reserved) : CustodyBalanced (updRecordOfBay s b f) :=
  h.stay rfl (custodyCount_updRecordOfBay s b hf)

/-- A record rewritten under its ID, in custody after the change exactly when it was before. -/
theorem updRecordOfId_custodyBalanced (h : CustodyBalanced s) {id : PackId} {r : PackRecord} {f : PackRecord → PackRecord}
    (hr : recordOfId s id = some r) (hf : inCustody (f r) = inCustody r) : CustodyBalanced (updRecordOfId s id f) := by
  refine h.stay rfl ?_
  have := custodyCount_updRecordOfId f hr
  rw [hf] at this
  omega

/-- A record in custody is removed under a test that finds it, and one of the four ways out counts it. -/
theorem removeCounted_custodyBalanced (h : CustodyBalanced s) {p : PackRecord → Bool} {r : PackRecord}
    (hr : s.packs.records.find? p = some r) (hstage : r.stage ≠ .reserved)
    (hl : custodyLeft t = custodyLeft s) (hg : custodyGone t = custodyGone s + 1)
    (hrec : t.packs.records = s.packs.records.eraseP p) : CustodyBalanced t := by
  refine h.leave hl hg ?_
  have := countP_eraseP_of_find? inCustody hr
  rw [(inCustody_iff r).2 hstage] at this
  simpa [custodyCount_eq_countP, hrec] using this

theorem gone_handedOut (c : Counters) :
    c.handedOut + 1 + c.shredded + c.cleared + c.lost = c.handedOut + c.shredded + c.cleared + c.lost + 1 := by ac_rfl

theorem gone_shredded (c : Counters) :
    c.handedOut + (c.shredded + 1) + c.cleared + c.lost = c.handedOut + c.shredded + c.cleared + c.lost + 1 := by ac_rfl

theorem gone_cleared (c : Counters) :
    c.handedOut + c.shredded + (c.cleared + 1) + c.lost = c.handedOut + c.shredded + c.cleared + c.lost + 1 := by ac_rfl

theorem gone_lost (c : Counters) :
    c.handedOut + c.shredded + c.cleared + (c.lost + 1) = c.handedOut + c.shredded + c.cleared + c.lost + 1 := by ac_rfl

/-! ### Packs in bays -/

theorem integrateRecord_stage (period : Nat) (v i : Int) (r : PackRecord) : (integrateRecord period v i r).stage = r.stage := by
  unfold integrateRecord
  split <;> rfl

theorem markDegraded_custodyBalanced (b : BayIdx) (h : CustodyBalanced s) : CustodyBalanced (markDegraded s b) :=
  .ite (fun _ => updRecordOfBay_custodyBalanced h fun r hr => by simp [hr]) fun _ => h

theorem integrate_custodyBalanced (b : BayIdx) (h : CustodyBalanced s) : CustodyBalanced (integrate s b) := by
  unfold integrate
  split
  · exact .ite (fun _ => updRecordOfBay_custodyBalanced h fun r hr => by simp [integrateRecord_stage, hr]) fun _ => h
  · exact h

theorem lateReboundOrHold_custodyBalanced (b : BayIdx) (h : CustodyBalanced s) : CustodyBalanced (lateReboundOrHold s b) := by
  have rebounds (u : State) (hu : CustodyBalanced u) : CustodyBalanced (lateRebound u b) := hu.of_frame (frame_lateRebound u b)
  have chosen := h.of_frame (frame_takeChoice s)
  exact .ite (fun _ => .ite (fun _ => rebounds _ chosen) fun _ => chosen) fun _ => rebounds _ h

theorem countEnergyOfBay_custodyBalanced (b : BayIdx) (h : CustodyBalanced s) : CustodyBalanced (countEnergyOfBay s b) :=
  h.of_table rfl rfl

theorem emptyBay_packs (s : State) (b : BayIdx) : (emptyBay s b).packs = s.packs := rfl

theorem removePack_custodyBalanced (b : BayIdx) (h : CustodyBalanced s) : CustodyBalanced (removePack s b) := by
  have missing (u : State) (hu : CustodyBalanced u) :
      CustodyBalanced (updRecordOfBay u b fun r => { toStage u .missing r with acc := none, deadline := none }) :=
    updRecordOfBay_custodyBalanced hu fun r _ => by simp [toStage]
  have opened := (h.of_frame (frame_coilOff s b)).of_frame (frame_abandonIfOffering _ b)
  exact (missing _ (countEnergyOfBay_custodyBalanced b opened)).of_packs (emptyBay_packs _ b)

theorem packLeaves_custodyBalanced (b : BayIdx) (h : CustodyBalanced s) : CustodyBalanced (packLeaves s b) := by
  have counted := countEnergyOfBay_custodyBalanced b h
  have inTransit (origin : PackRecord → Option Addr) : CustodyBalanced (updRecordOfBay (countEnergyOfBay s b) b fun r =>
      { toStage (countEnergyOfBay s b) .inTransit r with acc := none, origin := origin r }) :=
    updRecordOfBay_custodyBalanced counted fun r _ => by simp [toStage]
  unfold packLeaves
  dsimp only
  refine CustodyBalanced.of_packs ?_ (emptyBay_packs _ _)
  split
  · exact .ite (fun _ => (inTransit _).of_packs rfl) fun _ => inTransit _
  · exact inTransit _

theorem packGone_custodyBalanced (b : BayIdx) (h : CustodyBalanced s) : CustodyBalanced (packGone s b) := by
  unfold packGone
  split
  · exact h
  · exact h
  · exact h.of_packs rfl
  iterate 7 exact removePack_custodyBalanced b h
  · exact packLeaves_custodyBalanced b h

theorem packSensed_packs (s : State) (b : BayIdx) : (packSensed s b).packs = s.packs := by
  unfold packSensed
  split <;> rfl

theorem presenceCheck_custodyBalanced (b : BayIdx) (h : CustodyBalanced s) : CustodyBalanced (presenceCheck s b) := by
  have taken : CustodyBalanced (updBay s b fun x => { x with presencePending := false }) := h.of_packs rfl
  have sensed := taken.of_packs (packSensed_packs _ b)
  exact .ite (fun _ => .ite (fun _ => sensed.of_packs rfl) fun _ => sensed) fun _ => packGone_custodyBalanced b taken

theorem judgeRest_custodyBalanced (b : BayIdx) (h : CustodyBalanced s) : CustodyBalanced (judgeRest s b) := by
  have stopped : CustodyBalanced (updBay s b fun x => { x with restUntil := none }) := h.of_packs rfl
  unfold judgeRest
  dsimp only
  split
  · exact stopped
  · refine .ite (fun _ => stopped.of_frame (frame_rebound _ _)) fun _ =>
      .ite (fun _ => stopped.of_frame (frame_enterQuarantine _ _ _)) fun _ =>
      .ite (fun _ => stopped.of_frame (frame_enterQuarantine _ _ _)) fun _ => ?_
    exact updRecordOfBay_custodyBalanced (stopped.of_packs rfl) fun r hr => by simp [hr]

/-! ### Arrivals and feeds -/

theorem stage_of_awaitingSlot {id : PackId} {r : PackRecord} (ha : awaitingSlot s = some id) (hr : recordOfId s id = some r) :
    r.stage = .reserved ∨ r.stage = .inTransit := by
  have := List.find?_some ha
  simpa [slotStage, hr] using this

/-- A RESERVED pack that arrives enters custody by hand-in, one of an internal release is in it already, and one that nobody announced
enters it while a record is free. -/
theorem arrive_custodyBalanced (h : CustodyBalanced s) : CustodyBalanced (arrive s) := by
  unfold arrive
  split
  · rename_i id ha
    split
    · exact h
    · rename_i r hr
      refine .ite (fun hres => ?reserved) fun hres => ?released
      case reserved =>
        have count := custodyCount_updRecordOfId (fun x => { toStage s .waiting x with deadline := none }) hr
        have outside : inCustody r = false := by simp [inCustody, hres]
        rw [outside] at count
        refine CustodyBalanced.of_frame ?_ (frame_queueHandover _ _ _)
        exact h.enter (BitVec.add_assoc _ _ _).symm rfl count
      case released =>
        have inside : inCustody r = true := by
          rw [inCustody_iff, (stage_of_awaitingSlot ha hr).resolve_left hres]
          decide
        exact updRecordOfId_custodyBalanced h hr inside.symm
  · refine CustodyBalanced.of_frame ?_ (frame_pulseRow _ _)
    refine .ite (fun _ => h.enter ?_ rfl ?_) fun _ => h
    · exact (BitVec.add_assoc _ _ _).symm
    · exact custodyCount_addRecord s (unidentifiedRecord s)

theorem feedComplete_custodyBalanced (h : CustodyBalanced s) : CustodyBalanced (feedComplete s) := by
  unfold feedComplete
  split
  · exact h
  · split
    · exact h
    · rename_i r hr
      refine .ite (fun hfeed => ?_) fun _ => h
      exact removeCounted_custodyBalanced h hr (by simp [hfeed]) rfl (gone_shredded s.packs.counters) rfl

/-! ### Handover -/

theorem expireOffer_custodyBalanced (b : BayIdx) (h : CustodyBalanced s) : CustodyBalanced (expireOffer s b) :=
  updRecordOfBay_custodyBalanced ((h.of_frame (frame_abandonOffer s b)).of_frame (frame_backToSafe _ b)) fun r hr => by simp [hr]

theorem expireTransit_custodyBalanced (id : PackId) (h : CustodyBalanced s) : CustodyBalanced (expireTransit s id) := by
  unfold expireTransit
  split
  · exact h
  · rename_i r hr
    split
    · rename_i hstage
      have missing : CustodyBalanced (updRecordOfId s id fun x => { toStage s .missing x with deadline := none }) :=
        updRecordOfId_custodyBalanced h hr (by simp [inCustody, hstage, toStage])
      exact .ite (fun _ => missing.of_packs rfl) fun _ => missing
    · split
      · exact .ite (fun _ => (h.of_frame (frame_releaseReservation s _)).of_frame (frame_backToSafe _ _)) fun _ => h
      · exact h
    all_goals exact h

/-- A RESERVED record is not in custody, so that its removal moves nothing. -/
theorem removeReservation_custodyBalanced {id : PackId} {r : PackRecord} (h : CustodyBalanced s) (hr : recordOfId s id = some r)
    (hstage : r.stage = .reserved) : CustodyBalanced (removeReservation s id) := by
  refine h.stay rfl ?_
  have := custodyCount_eraseP hr
  rw [(by simp [inCustody, hstage] : inCustody r = false)] at this
  exact this

theorem expireReservation_custodyBalanced (id : PackId) (h : CustodyBalanced s) : CustodyBalanced (expireReservation s id) := by
  refine .ite (fun hstage => ?_) fun _ => h
  obtain ⟨r, hr, hres⟩ := Option.map_eq_some_iff.1 hstage
  exact (removeReservation_custodyBalanced h hr hres).of_frame (frame_pulseRow _ _)

theorem reserve_custodyBalanced (sender : Addr) (o : OfferPayload) (h : CustodyBalanced s) : CustodyBalanced (reserve s sender o) := by
  refine CustodyBalanced.of_frame ?_ (frame_queueHandover _ _ _)
  exact h.stay rfl (custodyCount_addRecord s (reservedRecord s sender o))

theorem takeOffer_custodyBalanced (sender : Addr) (o : OfferPayload) (h : CustodyBalanced s) : CustodyBalanced (takeOffer s sender o) := by
  have answered (x : HandoverBody) : CustodyBalanced (settle (queueHandover s sender x)) :=
    settle_custodyBalanced (h.of_frame (frame_queueHandover s sender x))
  refine .ite (fun _ => .ite (fun _ => answered _) fun _ => ?_) fun _ => h
  split
  · exact settle_custodyBalanced (reserve_custodyBalanced sender o h)
  · exact answered _

theorem endOffer_custodyBalanced (b : BayIdx) (h : CustodyBalanced s) : CustodyBalanced (endOffer s b) :=
  updRecordOfBay_custodyBalanced (h.of_frame (frame_abandonOffer s b)) fun r hr => by simp [hr]

theorem lateAnswer_custodyBalanced (sender : Addr) (id : PackId) (h : CustodyBalanced s) : CustodyBalanced (lateAnswer s sender id) := by
  unfold lateAnswer
  split
  · rename_i hr
    exact .ite (fun _ => updRecordOfId_custodyBalanced h hr rfl) fun _ => h
  · exact h

theorem takeAccept_custodyBalanced (sender : Addr) (id : PackId) (h : CustodyBalanced s) : CustodyBalanced (takeAccept s sender id) := by
  unfold takeAccept
  split
  · rename_i b _
    have ended := endOffer_custodyBalanced b h
    exact .ite (fun _ => ended.of_frame (frame_enterReleasing _ _ _)) fun _ =>
      (ended.of_frame (frame_backToSafe _ b)).of_frame (frame_queueHandover _ _ _)
  · have late := lateAnswer_custodyBalanced sender id h
    exact .ite (fun _ => late) fun _ => late.of_frame (frame_queueHandover _ _ _)

theorem takeDecline_custodyBalanced (sender : Addr) (id : PackId) (reason : DeclineReason) (h : CustodyBalanced s) :
    CustodyBalanced (takeDecline s sender id reason) := by
  unfold takeDecline
  split
  · exact (endOffer_custodyBalanced _ h).of_packs rfl
  · exact lateAnswer_custodyBalanced sender id h

theorem takeWithdraw_custodyBalanced (sender : Addr) (id : PackId) (h : CustodyBalanced s) :
    CustodyBalanced (takeWithdraw s sender id) := by
  unfold takeWithdraw
  split
  · rename_i r hr
    exact .ite (fun hres => removeReservation_custodyBalanced h hr hres.1) fun _ => h
  · exact h

theorem takeLanded_custodyBalanced (id : PackId) (h : CustodyBalanced s) : CustodyBalanced (takeLanded s id) := by
  unfold takeLanded
  split
  · exact h
  · rename_i r hr
    have handedOut (hstage : r.stage ≠ .reserved) : CustodyBalanced (countHandedOut (removeRecordOfId s id)) :=
      removeCounted_custodyBalanced h hr hstage rfl (gone_handedOut s.packs.counters) rfl
    split
    · rename_i hstage
      have out := handedOut (by simp [hstage])
      exact .ite (fun _ => out.of_packs rfl) fun _ => out
    · rename_i hstage
      exact handedOut (by simp [hstage])
    all_goals exact h

/-! ### Blocks beside the pack table -/

theorem settleLostOrAlarm_packs (s : State) : (settleLostOrAlarm s).packs = s.packs := by
  unfold settleLostOrAlarm
  dsimp only
  split
  · split <;> rfl
  · rfl

theorem topUpCrossing_packs (before s : State) : (topUpCrossing before s).packs = s.packs := by
  unfold topUpCrossing
  dsimp only
  split
  · split <;> split <;> rfl
  · rfl

theorem detectorRises_packs (s : State) (n : Fin 4) : (detectorRises s n).packs = s.packs := by
  unfold detectorRises
  dsimp only
  split <;> rfl

theorem detectorFalls_packs (s : State) (n : Fin 4) : (detectorFalls s n).packs = s.packs := by
  unfold detectorFalls
  dsimp only
  split <;> rfl

theorem reportTrip_packs (s : State) (c : TripClass) (x : Sections) (sender : Addr) : (reportTrip s c x sender).packs = s.packs := by
  unfold reportTrip setRemote
  split <;> simp

theorem reportedTrips_packs (s : State) (sender : Addr) (p : StatusPayload) : (reportedTrips s sender p).packs = s.packs := by
  unfold reportedTrips
  dsimp only
  split <;> split <;> simp [reportTrip_packs]

theorem handoverLeaves_packs (s : State) (f : HandoverFrame) : (handoverLeaves s f).packs = s.packs := by
  unfold handoverLeaves offerLeaves
  dsimp only
  split <;> (try split) <;> rfl

theorem frameLeft_packs (s : State) (a : Attempt) : (frameLeft s a).packs = s.packs := by
  unfold frameLeft sourceLeaves
  split <;> (try split) <;> simp [handoverLeaves_packs]

theorem warmZone_packs (s : State) : (warmZone s).packs = s.packs := by
  unfold warmZone
  split <;> rfl

theorem takeInputEvent_custodyBalanced (e : InputEvent) (h : CustodyBalanced s) : CustodyBalanced (takeInputEvent s e) := by
  unfold takeInputEvent
  split
  · exact presenceCheck_custodyBalanced _ h
  · exact h.of_packs (packSensed_packs s _)
  · exact packGone_custodyBalanced _ h
  · exact h.of_packs rfl
  · exact h.of_packs rfl
  · exact h.of_packs (detectorRises_packs s _)
  · exact h.of_packs (detectorFalls_packs s _)
  · exact arrive_custodyBalanced h
  · exact feedComplete_custodyBalanced h
  all_goals exact h

theorem expireFeed_custodyBalanced (h : CustodyBalanced s) : CustodyBalanced (expireFeed s) := by
  have stopped : CustodyBalanced (updZone s fun z => { z with feedUntil := none }) := h.of_packs rfl
  exact .ite (fun _ => stopped.of_frame (frame_pulseRow _ _)) fun _ => stopped

theorem expireOverdue_custodyBalanced (id : PackId) (h : CustodyBalanced s) : CustodyBalanced (expireOverdue s id) :=
  .ite (fun _ => expireReservation_custodyBalanced id (expireTransit_custodyBalanced id h)) fun _ => h

theorem expireAll_custodyBalanced (h : CustodyBalanced s) : CustodyBalanced (expireAll s) := by
  have records := List.foldlRecOn (motive := CustodyBalanced) (s.packs.records.filterMap PackRecord.id) expireOverdue h
    fun _ hu id _ => expireOverdue_custodyBalanced id hu
  have feed (u : State) (hu : CustodyBalanced u) : CustodyBalanced (if due u u.zone.feedUntil then expireFeed u else u) :=
    .ite (fun _ => expireFeed_custodyBalanced hu) fun _ => hu
  exact .ite (fun _ => (feed _ records).of_packs rfl) fun _ => feed _ records

/-! ### Answers of requests -/

/-- An answer leaves a state with the balance. -/
structure AnswerBalanced (a : Answer) : Prop where
  state : CustodyBalanced a.state

theorem AnswerBalanced.refused {c : ResultCode} (h : CustodyBalanced s) : AnswerBalanced (refuse s c) := ⟨h⟩

theorem AnswerBalanced.reported {p : ReplyPayload} (h : CustodyBalanced s) : AnswerBalanced (report s p) := ⟨h⟩

theorem AnswerBalanced.unchanged (h : CustodyBalanced s) : AnswerBalanced (done s) := ⟨h⟩

theorem AnswerBalanced.carriedOut (h : CustodyBalanced s) : AnswerBalanced (doneSettled s) :=
  .unchanged (settle_custodyBalanced h)

theorem AnswerBalanced.settled {c : ResultCode} {p : ReplyPayload} (h : CustodyBalanced s) :
    AnswerBalanced { result := c, payload := p, state := settle s } := by
  constructor
  dsimp only
  exact settle_custodyBalanced h

theorem AnswerBalanced.ite {c : Prop} [Decidable c] {a b : Answer} (ha : c → AnswerBalanced a) (hb : ¬c → AnswerBalanced b) :
    AnswerBalanced (if c then a else b) := by
  split
  · exact ha ‹_›
  · exact hb ‹_›

theorem admitPack_custodyBalanced {r : PackRecord} (b : BayIdx) (th : Thresholds) (h : CustodyBalanced s)
    (hr : r.stage = .atBay) : CustodyBalanced (admitPack s b r th) := by
  refine h.enter ?_ rfl ?_
  · exact add_right_comm s.packs.counters.admitted 1 s.packs.counters.handedIn
  · exact (custodyCount_addRecord s r).trans (by simp [inCustody, hr])

theorem admitAnswer_balanced (bay : Byte) (id : PackId) (cls cells : Byte) (edecl : Option (BitVec 24))
    (h : CustodyBalanced s) : AnswerBalanced (admitAnswer bay id cls cells edecl s) := by
  have refusal (c : ResultCode) : AnswerBalanced (refuse s c) := .refused h
  unfold admitAnswer
  split
  · exact refusal _
  · refine .ite (fun _ => refusal _) fun _ => .ite (fun _ => refusal _) fun _ => .ite (fun _ => refusal _) fun _ =>
      .ite (fun _ => refusal _) fun _ => .ite (fun _ => refusal _) fun _ => ?_
    exact .settled (admitPack_custodyBalanced _ _ h rfl)

theorem startAnswer_balanced (bay : Byte) (h : CustodyBalanced s) : AnswerBalanced (startAnswer bay s) := by
  unfold startAnswer
  split
  · exact .refused h
  · exact .ite (fun _ => .ite (fun _ => .carriedOut (h.of_frame (frame_enterConnecting s _))) fun _ => .refused h)
      fun _ => .refused h

theorem rejectAnswer_balanced (bay : Byte) (h : CustodyBalanced s) : AnswerBalanced (rejectAnswer bay s) := by
  unfold rejectAnswer
  split
  · exact .refused h
  · split
    · exact .refused h
    · exact .refused h
    · exact .unchanged h
    all_goals exact .carriedOut (h.of_frame (frame_enterQuarantine s _ _))

theorem clearBay_custodyBalanced {b : BayIdx} {r : PackRecord} (h : CustodyBalanced s) (hr : recordOfBay s b = some r) :
    CustodyBalanced (clearBay s b) := by
  refine CustodyBalanced.of_packs ?_ (emptyBay_packs _ b)
  have counted := countEnergyOfBay_custodyBalanced b h
  exact removeCounted_custodyBalanced counted hr (by simp [stage_of_recordOfBay hr]) rfl (gone_cleared s.packs.counters) rfl

theorem clearBayAnswer_balanced (bay : Byte) (h : CustodyBalanced s) : AnswerBalanced (clearBayAnswer bay s) := by
  unfold clearBayAnswer
  split
  · exact .refused h
  · split
    · exact .refused h
    · exact .ite (fun _ => .settled (clearBay_custodyBalanced h ‹_›)) fun _ => .refused h

theorem clearChuteAnswer_balanced (h : CustodyBalanced s) : AnswerBalanced (clearChuteAnswer s) := by
  unfold clearChuteAnswer
  split
  · exact .refused h
  · rename_i r hr
    have hstage : r.stage = .unidentified := by simpa [isUnidentified] using List.find?_some hr
    exact .settled (removeCounted_custodyBalanced h hr (by simp [hstage]) rfl (gone_cleared s.packs.counters) rfl)

theorem resolveLostAnswer_balanced (id : PackId) (h : CustodyBalanced s) : AnswerBalanced (resolveLostAnswer id s) := by
  unfold resolveLostAnswer
  split
  · exact .refused h
  · rename_i r hr
    refine .ite (fun hstage => ?_) fun _ => .refused h
    exact .carriedOut (removeCounted_custodyBalanced h hr (by simp [hstage]) rfl (gone_lost s.packs.counters) rfl)

theorem zoneStartAnswer_balanced (h : CustodyBalanced s) : AnswerBalanced (zoneStartAnswer s) :=
  .ite (fun _ => .ite (fun _ => .carriedOut (h.of_frame (frame_enterPurging s))) fun _ => .refused h) fun _ => .refused h

theorem zoneStopAnswer_balanced (h : CustodyBalanced s) : AnswerBalanced (zoneStopAnswer s) := by
  refine .ite (fun _ => ?_) fun _ => .refused h
  split
  · exact .unchanged h
  iterate 4 exact .ite (fun _ => .carriedOut (h.of_frame (frame_enterAir s))) fun _ => .refused h
  all_goals exact .refused h

theorem runAnswer_balanced (h : CustodyBalanced s) : AnswerBalanced (runAnswer s) := by
  refine .ite (fun _ => ?_) fun _ => .refused h
  split
  · exact .ite (fun _ => .carriedOut (h.of_frame (frame_enterRunning s))) fun _ => .refused h
  · exact .unchanged h
  all_goals exact .refused h

theorem haltAnswer_balanced (h : CustodyBalanced s) : AnswerBalanced (haltAnswer s) := by
  refine .ite (fun _ => ?_) fun _ => .refused h
  split
  · exact .carriedOut (h.of_frame (frame_enterReady s))
  · exact .unchanged h
  all_goals exact .refused h

theorem ackAnswer_balanced (scope : Byte) (h : CustodyBalanced s) : AnswerBalanced (ackAnswer scope s) := by
  unfold ackAnswer
  split
  · exact .refused h
  · exact ⟨List.foldlRecOn (motive := CustodyBalanced) _ _ h fun u hu r _ => hu.of_frame (frame_updRow u r _)⟩

theorem resetAnswer_balanced (h : CustodyBalanced s) : AnswerBalanced (resetAnswer s) :=
  .settled <|
    List.foldlRecOn (motive := CustodyBalanced) _ lowerRow h fun u hu r _ => hu.of_packs (lowerRow_packs u r)

theorem maintOffAnswer_balanced (h : CustodyBalanced s) : AnswerBalanced (maintOffAnswer s) :=
  .ite (fun _ => .carriedOut (h.of_packs rfl)) fun _ => .unchanged h

theorem inhibitAnswer_balanced (row : Byte) (seconds : BitVec 16) (h : CustodyBalanced s) :
    AnswerBalanced (inhibitAnswer row seconds s) := by
  refine .ite (fun _ => .refused h) fun _ => ?_
  split
  · exact .refused h
  · exact .ite (fun _ => .refused h) fun _ => .ite (fun _ => .refused h) fun _ => .ite (fun _ => .refused h) fun _ =>
      .settled (h.of_frame (frame_updRow s _ _))

theorem queryPackIdAnswer_balanced (id : PackId) (h : CustodyBalanced s) : AnswerBalanced (queryPackIdAnswer id s) := by
  unfold queryPackIdAnswer
  split
  · exact .refused h
  · exact .reported h

theorem queryPackBayAnswer_balanced (bay : Byte) (h : CustodyBalanced s) : AnswerBalanced (queryPackBayAnswer bay s) := by
  unfold queryPackBayAnswer
  split
  · exact .refused h
  · exact .reported h

theorem queryPackPositionAnswer_balanced (position : Byte) (h : CustodyBalanced s) :
    AnswerBalanced (queryPackPositionAnswer position s) := .ite (fun _ => .reported h) fun _ => .refused h

theorem queryCausesAnswer_balanced (position : Byte) (h : CustodyBalanced s) : AnswerBalanced (queryCausesAnswer position s) :=
  .ite (fun _ => .reported h) fun _ => .refused h

/-! ### Commands -/

/-- A command that answers a next state answers one with the balance. -/
def NextBalanced (o : Host.Outcome State Fault Refusal) : Prop := ∀ t, o = .next t → CustodyBalanced t

theorem nextBalanced_next (h : CustodyBalanced t) : NextBalanced (.next t) := by
  intro u hu
  cases hu
  exact h

theorem nextBalanced_whenServing {f : State → State} (h : CustodyBalanced s) (hf : CustodyBalanced (f s)) :
    NextBalanced (whenServing s f) :=
  nextBalanced_next (.ite (fun _ => hf) fun _ => h)

theorem nextBalanced_request {f : State → Answer} (hd : Header) (kind : Byte) (h : CustodyBalanced s)
    (hf : AnswerBalanced (f s)) : NextBalanced (request hd kind f s) :=
  nextBalanced_next <|
    .ite (fun _ => .ite (fun _ => .ite (fun _ => hf.state.of_packs rfl) fun _ => h) fun _ =>
      .ite (fun _ => h.of_packs rfl) fun _ => h) fun _ => h

theorem coldReset_sides {pins : BitVec 6} (h : exec (.coldReset pins) s = .next t) : custodyLeft t = 0 ∧ custodyRight t = 0 := by
  cases h
  exact ⟨rfl, rfl⟩

theorem endLoad_custodyBalanced (memory : List Byte) (fields : ImageFields) (h : CustodyBalanced s) :
    CustodyBalanced (endLoad s memory fields) := by
  unfold endLoad
  dsimp only
  split
  · exact .ite (fun _ => settle_custodyBalanced (h.of_packs rfl)) fun _ => h.of_packs rfl
  · exact h.of_packs rfl

theorem takeRestart_custodyBalanced (hd : Header) (h : CustodyBalanced s) : CustodyBalanced (takeRestart s hd) :=
  .ite (fun _ => .ite (fun _ => h.of_packs (warmZone_packs s)) fun _ => h) fun _ => .ite (fun _ => h.of_packs rfl) fun _ => h

theorem leaveWarmReset_custodyBalanced (r : Restarting) (h : CustodyBalanced s) : CustodyBalanced (leaveWarmReset s r) := by
  unfold leaveWarmReset
  refine CustodyBalanced.of_frame (settle_custodyBalanced (expireAll_custodyBalanced ?_)) (frame_markFirstOut _ _)
  exact h.of_packs rfl

theorem execWarmResetEnd_nextBalanced (h : CustodyBalanced s) : NextBalanced (execWarmResetEnd s) := by
  refine nextBalanced_next ?_
  split
  · exact .ite (fun _ => leaveWarmReset_custodyBalanced _ h) fun _ => h
  · exact h

theorem execPairArrival_nextBalanced (b : BayIdx) (v : BitVec 16) (vValid : Bool) (i : BitVec 16) (iValid : Bool)
    (h : CustodyBalanced s) : NextBalanced (execPairArrival b v vValid i iValid s) := by
  refine nextBalanced_whenServing h (.ite (fun _ => settle_custodyBalanced ?_) fun _ => h)
  have measured : CustodyBalanced (measurePair s b { value := v.toNat, valid := vValid } { value := i.toInt, valid := iValid }) :=
    h.of_packs rfl
  have taken := (integrate_custodyBalanced b (markDegraded_custodyBalanced b measured)).of_frame (frame_armEnd _ b)
  exact .ite (fun _ => lateReboundOrHold_custodyBalanced b taken) fun _ => taken

theorem execZoneArrival_nextBalanced (o2a o2b h1 h2 : Reading) (h : CustodyBalanced s) :
    NextBalanced (execZoneArrival o2a o2b h1 h2 s) := by
  unfold execZoneArrival
  refine nextBalanced_whenServing h ?_
  split
  · exact h
  · refine settle_custodyBalanced (h.of_packs ?_)
    rw [settleLostOrAlarm_packs, topUpCrossing_packs]
    rfl

theorem execDiscreteArrival_nextBalanced (levels : List (DiscreteInput × Bool)) (h : CustodyBalanced s) :
    NextBalanced (execDiscreteArrival levels s) := by
  unfold execDiscreteArrival
  refine nextBalanced_whenServing h (CustodyBalanced.of_frame ?_ (frame_markFirstOut s _))
  have pushed := List.foldlRecOn (motive := CustodyBalanced) levels pushInput h fun u hu x _ => hu.of_packs (pushInput_packs u x)
  exact List.foldlRecOn (motive := CustodyBalanced) _ _ pushed fun u hu e _ =>
    settle_custodyBalanced (takeInputEvent_custodyBalanced e hu)

theorem execSecondBoundary_nextBalanced (h : CustodyBalanced s) : NextBalanced (execSecondBoundary s) := by
  have counted : CustodyBalanced { s with secondsDue := s.secondsDue - 1 } := h.of_packs rfl
  exact nextBalanced_whenServing h
    (.ite (fun _ => counted.settleIf (counted.of_packs rfl)) fun _ => h)

theorem execClosingWindowExpiry_nextBalanced (b : BayIdx) (h : CustodyBalanced s) : NextBalanced (execClosingWindowExpiry b s) := by
  unfold execClosingWindowExpiry
  refine nextBalanced_whenServing h ?_
  split
  · exact h.settleIf (h.of_packs rfl)
  all_goals exact h

theorem execOpeningWindowExpiry_nextBalanced (b : BayIdx) (h : CustodyBalanced s) : NextBalanced (execOpeningWindowExpiry b s) := by
  unfold execOpeningWindowExpiry
  refine nextBalanced_whenServing h ?_
  split
  · exact h.settleIf (h.of_packs rfl)
  all_goals exact h

theorem execDwellTimerStep_nextBalanced (d : Fin 16) (h : CustodyBalanced s) : NextBalanced (execDwellTimerStep d s) := by
  unfold execDwellTimerStep
  refine nextBalanced_whenServing h ?_
  split
  · exact h
  · exact h.settleIf (h.of_packs rfl)

theorem takeStatus_custodyBalanced (i : Fin 12) (hd : Header) (p : StatusPayload) (h : CustodyBalanced s) :
    CustodyBalanced (takeStatus s i hd p) :=
  .ite (fun _ => .ite (fun _ => settle_custodyBalanced (h.of_packs (reportedTrips_packs _ _ _)))
    fun _ => settle_custodyBalanced (h.of_packs rfl)) fun _ => h

theorem execStatus_nextBalanced (hd : Header) (p : StatusPayload) (h : CustodyBalanced s) : NextBalanced (execStatus hd p s) := by
  refine nextBalanced_next (.ite (fun _ => ?_) fun _ => h)
  split
  · exact takeStatus_custodyBalanced _ hd p h
  · exact h

theorem takeTrip_custodyBalanced (sender : Addr) (c : TripClass) (x : Sections) (h : CustodyBalanced s) :
    CustodyBalanced (takeTrip s sender c x) :=
  .ite (fun _ => h) fun _ => settle_custodyBalanced (h.of_packs (reportTrip_packs _ _ _ _))

theorem execStatusDue_nextBalanced (h : CustodyBalanced s) : NextBalanced (execStatusDue s) := by
  refine nextBalanced_next ?_
  split
  · exact .ite (fun _ => h.of_packs rfl) fun _ => h
  · exact h

theorem execTransmitAttempt_nextBalanced (h : CustodyBalanced s) : NextBalanced (execTransmitAttempt s) := by
  refine nextBalanced_next ?_
  split
  · exact h.of_packs rfl
  · exact h

theorem execCollision_nextBalanced (h : CustodyBalanced s) : NextBalanced (execCollision s) := by
  refine nextBalanced_next ?_
  split
  · exact h.of_packs rfl
  · exact h

theorem execFrameLeaves_nextBalanced (h : CustodyBalanced s) : NextBalanced (execFrameLeaves s) := by
  refine nextBalanced_next ?_
  split
  · have left := h.of_packs (frameLeft_packs s ‹_›)
    exact .ite (fun _ => settle_custodyBalanced left) fun _ => left
  · exact h

/-- Every command keeps the balance of R61: most leave the counters and the number of records in custody alone, and each of the others
moves one pack and counts it once. -/
theorem exec_nextBalanced (i : Instr) (h : CustodyBalanced s) : NextBalanced (exec i s) := by
  cases i with
  | coldReset pins => exact fun t ht => (coldReset_sides ht).1.trans (coldReset_sides ht).2.symm
  | loadEnd memory fields => exact nextBalanced_next (.ite (fun _ => endLoad_custodyBalanced memory fields h) fun _ => h)
  | pairArrival b v vValid i iValid => exact execPairArrival_nextBalanced b v vValid i iValid h
  | tbArrival b tb => exact nextBalanced_whenServing h (h.settleIf (h.of_packs rfl))
  | zoneArrival o2a o2b h1 h2 => exact execZoneArrival_nextBalanced o2a o2b h1 h2 h
  | discreteArrival levels => exact execDiscreteArrival_nextBalanced levels h
  | spArrival pulses => exact nextBalanced_whenServing h (h.settleIf (h.of_packs rfl))
  | secondBoundary => exact execSecondBoundary_nextBalanced h
  | closingWindowExpiry b => exact execClosingWindowExpiry_nextBalanced b h
  | openingWindowExpiry b => exact execOpeningWindowExpiry_nextBalanced b h
  | restTimerExpiry b => exact nextBalanced_whenServing h (h.settleIf (judgeRest_custodyBalanced b h))
  | offerBackoffExpiry b => exact nextBalanced_whenServing h (h.settleIf (h.of_packs rfl))
  | rgPulseEnd b => exact nextBalanced_whenServing h (.ite (fun _ => h.of_packs rfl) fun _ => h)
  | fpPulseEnd => exact nextBalanced_whenServing h (.ite (fun _ => h.of_packs rfl) fun _ => h)
  | offerQueueExpiry b => exact nextBalanced_whenServing h (h.settleIf (expireOffer_custodyBalanced b h))
  | answerWindowExpiry b => exact nextBalanced_whenServing h (h.settleIf (expireOffer_custodyBalanced b h))
  | transitDeadlineExpiry id => exact nextBalanced_whenServing h (h.settleIf (expireTransit_custodyBalanced id h))
  | reservationExpiry id => exact nextBalanced_whenServing h (h.settleIf (expireReservation_custodyBalanced id h))
  | feedDeadlineExpiry => exact nextBalanced_whenServing h (h.settleIf (expireFeed_custodyBalanced h))
  | purgeTimerExpiry => exact nextBalanced_whenServing h (h.settleIf ((h.of_frame (frame_enterAir s)).of_frame (frame_pulseRow _ _)))
  | settleTimerExpiry => exact nextBalanced_whenServing h (h.settleIf (h.of_frame (frame_enterReady s)))
  | floodTimerExpiry => exact nextBalanced_whenServing h (h.settleIf (h.of_packs rfl))
  | persistenceTimerExpiry n => exact nextBalanced_whenServing h (h.settleIf (h.of_packs rfl))
  | reformationTimerExpiry => exact nextBalanced_whenServing h (h.settleIf (h.of_packs rfl))
  | dwellTimerStep d => exact execDwellTimerStep_nextBalanced d h
  | inhibitExpiry r => exact nextBalanced_whenServing h (h.settleIf (h.of_packs rfl))
  | stalenessDeadlineExpiry p => exact nextBalanced_whenServing h (h.settleIf (h.of_packs rfl))
  | startWindowExpiry => exact nextBalanced_whenServing h (h.settleIf (h.of_packs rfl))
  | statusDue => exact execStatusDue_nextBalanced h
  | transmitBlockedWatch => exact nextBalanced_whenServing h (h.settleIf (h.of_packs rfl))
  | transmitAttempt => exact execTransmitAttempt_nextBalanced h
  | collision => exact execCollision_nextBalanced h
  | backoffExpiry => exact nextBalanced_next (.ite (fun _ => h.of_packs rfl) fun _ => h)
  | frameLeaves => exact execFrameLeaves_nextBalanced h
  | frameDiscarded raw => exact nextBalanced_next h
  | status hd p => exact execStatus_nextBalanced hd p h
  | trip hd c x => exact nextBalanced_next (.ite (fun _ => takeTrip_custodyBalanced _ c x h) fun _ => h)
  | offer hd o => exact nextBalanced_next (.ite (fun _ => takeOffer_custodyBalanced _ o h) fun _ => h)
  | accept hd id => exact nextBalanced_next (.ite (fun _ => settle_custodyBalanced (takeAccept_custodyBalanced _ id h)) fun _ => h)
  | decline hd id reason =>
    exact nextBalanced_next (.ite (fun _ => settle_custodyBalanced (takeDecline_custodyBalanced _ id reason h)) fun _ => h)
  | withdraw hd id => exact nextBalanced_next (.ite (fun _ => settle_custodyBalanced (takeWithdraw_custodyBalanced _ id h)) fun _ => h)
  | landed hd id => exact nextBalanced_next (.ite (fun _ => settle_custodyBalanced (takeLanded_custodyBalanced id h)) fun _ => h)
  | replyReceived hd payload => exact nextBalanced_next h
  | requestMalformed hd kind => exact nextBalanced_request hd kind h (.refused h)
  | admitPack hd bay id cls cells edecl => exact nextBalanced_request hd 1 h (admitAnswer_balanced bay id cls cells edecl h)
  | start hd bay => exact nextBalanced_request hd 2 h (startAnswer_balanced bay h)
  | reject hd bay => exact nextBalanced_request hd 3 h (rejectAnswer_balanced bay h)
  | clearBay hd bay => exact nextBalanced_request hd 4 h (clearBayAnswer_balanced bay h)
  | clearChute hd => exact nextBalanced_request hd 4 h (clearChuteAnswer_balanced h)
  | resolveLost hd id => exact nextBalanced_request hd 5 h (resolveLostAnswer_balanced id h)
  | zoneStart hd => exact nextBalanced_request hd 6 h (zoneStartAnswer_balanced h)
  | zoneStop hd => exact nextBalanced_request hd 7 h (zoneStopAnswer_balanced h)
  | run hd => exact nextBalanced_request hd 8 h (runAnswer_balanced h)
  | halt hd => exact nextBalanced_request hd 9 h (haltAnswer_balanced h)
  | ack hd scope => exact nextBalanced_request hd 10 h (ackAnswer_balanced scope h)
  | reset hd => exact nextBalanced_request hd 11 h (resetAnswer_balanced h)
  | maintOn hd => exact nextBalanced_request hd 12 h (.unchanged (h.of_packs rfl))
  | maintOff hd => exact nextBalanced_request hd 12 h (maintOffAnswer_balanced h)
  | inhibit hd row seconds => exact nextBalanced_request hd 13 h (inhibitAnswer_balanced row seconds h)
  | queryPackId hd id => exact nextBalanced_request hd 14 h (queryPackIdAnswer_balanced id h)
  | queryPackBay hd bay => exact nextBalanced_request hd 14 h (queryPackBayAnswer_balanced bay h)
  | queryPackPosition hd position => exact nextBalanced_request hd 14 h (queryPackPositionAnswer_balanced position h)
  | queryCauses hd position => exact nextBalanced_request hd 15 h (queryCausesAnswer_balanced position h)
  | queryLog hd entry => exact nextBalanced_request hd 16 h (.reported h)
  | queryCounts hd => exact nextBalanced_request hd 17 h (.reported h)
  | restart hd => exact nextBalanced_next (.ite (fun _ => takeRestart_custodyBalanced hd h) fun _ => h)
  | warmResetEnd => exact execWarmResetEnd_nextBalanced h

theorem tick_packs (s : State) : (tick s).packs = s.packs := by
  unfold tick
  dsimp only
  split <;> rfl

theorem step_custodyBalanced (h : CustodyBalanced s) (hstep : step s = .next t) : CustodyBalanced t := by
  unfold step at hstep
  split at hstep
  · cases hstep
    exact h.of_packs (tick_packs s)
  · rename_i c rest _
    have popped : CustodyBalanced { s with pending := rest } := h.of_packs rfl
    exact exec_nextBalanced c popped t hstep

theorem queryCounts_reports {h : Header} (hr : requestTaken s h = true) :
    Reports (exec (.queryCounts h) s) s h 17 (queryCountsAnswer s).payload :=
  request_of_taken hr 17 queryCountsAnswer

end Sys2Proof.Machine

open Sys2Proof Sys2Proof.Machine

/-- Settles O53: each of the three parts by its own lemma, the first by a case split over the commands. -/
theorem custodyBalanceIsKept : Obligations.CustodyBalanceIsKept :=
  ⟨fun _ _ => step_custodyBalanced, fun _ _ _ => coldReset_sides, fun _ _ hr => ⟨_, _, _, _, queryCounts_reports hr⟩⟩

/-- Settles O40: QUERY-COUNTS reports the model's own two sides, and the records in custody are those of the six stages. -/
theorem queryCountsReports : Obligations.QueryCountsReports := by
  intro h s hr
  have reported := queryCounts_reports hr
  unfold queryCountsAnswer at reported
  rw [custodyRight_eq_stages] at reported
  exact ⟨reported, fun balanced => balanced.trans (custodyRight_eq_stages s)⟩

end

section
/-! SUPPORT. The mode that a request meets, what ends with MAINTENANCE, the loader through the end of a warm reset, and the count of
inhibited rows; settles O37 and O38. -/

namespace Sys2Proof.Machine

variable {s : State} {h : Header}

/-! ### Answers of a request that is taken -/

theorem request_refuses (hr : requestTaken s h = true) {kind : Byte} {f : State → Answer} {c : ResultCode}
    (hf : f s = refuse s c) : Refuses (request h kind f s) s h kind c := by
  rw [Refuses, request_of_taken hr, hf, refuse]

theorem request_performs (hr : requestTaken s h = true) {kind : Byte} {f : State → Answer} {u : State} {p : ReplyPayload}
    (hf : f s = { result := .done, payload := p, state := settle u }) : Performs (request h kind f s) u h kind p :=
  ⟨by rw [request_of_taken hr, hf], frame_settle u⟩

/-- Out of service a request is not taken and changes nothing (R138, R184). -/
theorem request_of_not_inService (hs : inService s = false) (kind : Byte) (f : State → Answer) : request h kind f s = .next s :=
  request_of_not_heard (by simp [heardOwn, hs]) kind f

/-! ### MAINTENANCE (R138) -/

theorem setMode_self {m : Mode} (hm : s.loader.mode = m) : setMode s m = s := by
  subst hm
  rfl

theorem maintOffAnswer_of_maintenance (hm : s.loader.mode = .maintenance) :
    maintOffAnswer s = doneSettled (endInhibits (setMode s .operating)) := if_pos hm

theorem maintOffAnswer_of_not_maintenance (hm : s.loader.mode ≠ .maintenance) : maintOffAnswer s = done s := if_neg hm

/-- Ending the inhibits ends the inhibit of every row and leaves its other fields (R140). -/
@[simp] theorem rowState_endInhibits (s : State) (r : Row) : rowState (endInhibits s) r = { rowState s r with inhibit := none } := by
  simp [rowState, endInhibits]

theorem buildStatus_mode_of_not_configFault (hm : s.loader.mode ≠ .configFault) : (buildStatus s).mode = reportedMode s := by
  rw [buildStatus, if_neg hm]
  rfl

/-! ### The end of a warm reset leaves the loader to itself (R193) -/

@[simp] theorem dropSlot_loader (s : State) (id : PackId) : (dropSlot s id).loader = s.loader := rfl

@[simp] theorem expireTransit_loader (s : State) (id : PackId) : (expireTransit s id).loader = s.loader := by
  unfold expireTransit
  split
  · rfl
  · split
    · dsimp only
      split <;> simp
    · split
      · split
        · exact ((frame_releaseReservation s _).trans (frame_backToSafe _ _)).loader
        · rfl
      · rfl
    all_goals rfl

@[simp] theorem expireReservation_loader (s : State) (id : PackId) : (expireReservation s id).loader = s.loader := by
  unfold expireReservation
  split
  · exact (frame_pulseRow _ _).loader
  · rfl

@[simp] theorem expireOverdue_loader (s : State) (id : PackId) : (expireOverdue s id).loader = s.loader := by
  unfold expireOverdue
  split
  · simp
  · rfl

@[simp] theorem expireFeed_loader (s : State) : (expireFeed s).loader = s.loader := by
  unfold expireFeed
  dsimp only
  split
  · exact (frame_pulseRow _ _).loader
  · rfl

@[simp] theorem expireAll_loader (s : State) : (expireAll s).loader = s.loader := by
  have records (l : List PackId) : (l.foldl expireOverdue s).loader = s.loader :=
    List.foldlRecOn (motive := fun u : State => u.loader = s.loader) l expireOverdue rfl fun u hu id _ => by simp [hu]
  have feed (u : State) : (if due u u.zone.feedUntil then expireFeed u else u).loader = u.loader := by split <;> simp
  have flood (u : State) : (if due u u.zone.floodUntil then expireFlood u else u).loader = u.loader := by split <;> rfl
  unfold expireAll
  dsimp only
  rw [flood, feed, records]

theorem leaveWarmReset_mode (s : State) (r : Restarting) : (leaveWarmReset s r).loader.mode = .operating := by
  unfold leaveWarmReset
  dsimp only
  rw [(frame_markFirstOut _ _).loader, (frame_settle _).loader, expireAll_loader]
  rfl

/-! ### The position of an INHIBIT names a row (R139) -/

theorem rowAt_of_position {n : Nat} {r : Row} (hn : rowPosition r = n) : rowAt n = some r := hn ▸ rowAt_rowPosition r

/-- No row stands outside the positions 1 to 66. -/
theorem rowAt_of_outside {n : Nat} (hn : n = 0 ∨ 66 < n) : rowAt n = none := by
  refine List.find?_eq_none.2 fun r _ => ?_
  have := (rowIndex r).isLt
  simp only [beq_iff_eq, rowPosition]
  omega

/-! ### The count of inhibited rows -/

theorem allRows_nodup : allRows.Nodup := allRows_sorted.imp fun hlt e => absurd (e ▸ hlt) (Nat.lt_irrefl _)

/-- The inhibited rows are one row, if it is inhibited, and those among the others. -/
theorem inhibitedRows_length (s : State) (r : Row) :
    (inhibitedRows s).length =
      (allRows.erase r).countP (fun x => (rowState s x).inhibit.isSome) + if (rowState s r).inhibit.isSome then 1 else 0 := by
  rw [inhibitedRows, ← List.countP_eq_length_filter, (List.perm_cons_erase (mem_allRows r)).countP_eq, List.countP_cons]

/-- An inhibit given to a row counts one more row, and none where the row had an inhibit before. -/
theorem inhibitedRows_length_updRow (s : State) (r : Row) (until_ : Nat) :
    (inhibitedRows (updRow s r fun x => { x with inhibit := some until_ })).length =
      (inhibitedRows s).length + if (rowState s r).inhibit = none then 1 else 0 := by
  have others : (allRows.erase r).countP (fun x => (rowState (updRow s r fun x => { x with inhibit := some until_ }) x).inhibit.isSome) =
      (allRows.erase r).countP (fun x => (rowState s x).inhibit.isSome) :=
    List.countP_congr fun x hx => by rw [rowState_updRow_of_ne s _ (allRows_nodup.mem_erase_iff.1 hx).1]
  rw [inhibitedRows_length _ r, inhibitedRows_length s r, others, rowState_updRow_same]
  cases (rowState s r).inhibit <;> rfl

/-! ### INHIBIT check by check (R139) -/

/-- The inhibit that an INHIBIT gives. -/
def inhibitRow (s : State) (r : Row) (seconds : BitVec 16) : State :=
  updRow s r fun x => { x with inhibit := some (s.now + seconds.toNat * 2000) }

variable {row : Byte} {seconds : BitVec 16}

theorem inhibitAnswer_of_not_maintenance (hm : s.loader.mode ≠ .maintenance) : inhibitAnswer row seconds s = refuse s .mode := if_pos hm

theorem inhibitAnswer_of_noRow (hm : s.loader.mode = .maintenance) (hr : rowAt row.toNat = none) :
    inhibitAnswer row seconds s = refuse s .range := by
  simp [inhibitAnswer, hm, hr]

section
variable {r : Row} (hm : s.loader.mode = .maintenance) (hr : rowAt row.toNat = some r)
include hm hr

/-- What is left to check where the position names a row: range and configuration, class, then the count of inhibited rows. -/
theorem inhibitAnswer_of_row :
    inhibitAnswer row seconds s =
      if ¬(1 ≤ seconds.toNat ∧ seconds.toNat ≤ 1800 ∧ rowConfigured s r = true) then refuse s .range
      else if ¬(rowClass r = .line ∨ rowClass r = .account) then refuse s .class_
      else if (rowState s r).inhibit = none ∧ 4 ≤ (inhibitedRows s).length then refuse s .full
      else
        { result := .done, payload := .count (inhibitedRows (inhibitRow s r seconds)).length
          state := settle (inhibitRow s r seconds) } := by
  have check : (!(decide (1 ≤ seconds.toNat ∧ seconds.toNat ≤ 1800) && rowConfigured s r)) = true ↔
      ¬(1 ≤ seconds.toNat ∧ seconds.toNat ≤ 1800 ∧ rowConfigured s r = true) := by
    rw [Bool.not_eq_true', ← Bool.not_eq_true, Bool.and_eq_true, decide_eq_true_iff, and_assoc]
  rw [inhibitAnswer, if_neg (not_not_intro hm), hr]
  exact if_congr check rfl rfl

theorem inhibitAnswer_of_outOfRange (hn : ¬(1 ≤ seconds.toNat ∧ seconds.toNat ≤ 1800 ∧ rowConfigured s r = true)) :
    inhibitAnswer row seconds s = refuse s .range := by
  rw [inhibitAnswer_of_row hm hr, if_pos hn]

variable (hn : 1 ≤ seconds.toNat ∧ seconds.toNat ≤ 1800 ∧ rowConfigured s r = true)
include hn

theorem inhibitAnswer_of_class (hl : rowClass r ≠ .line) (ha : rowClass r ≠ .account) :
    inhibitAnswer row seconds s = refuse s .class_ := by
  rw [inhibitAnswer_of_row hm hr, if_neg (not_not_intro hn), if_pos (not_or_intro hl ha)]

variable (hc : rowClass r = .line ∨ rowClass r = .account)
include hc

theorem inhibitAnswer_of_full (hi : (rowState s r).inhibit = none) (hl : 4 ≤ (inhibitedRows s).length) :
    inhibitAnswer row seconds s = refuse s .full := by
  rw [inhibitAnswer_of_row hm hr, if_neg (not_not_intro hn), if_neg (not_not_intro hc), if_pos ⟨hi, hl⟩]

theorem inhibitAnswer_of_room (hroom : (rowState s r).inhibit ≠ none ∨ (inhibitedRows s).length < 4) :
    inhibitAnswer row seconds s =
      { result := .done, payload := .count (inhibitedRows (inhibitRow s r seconds)).length
        state := settle (inhibitRow s r seconds) } := by
  have room : ¬((rowState s r).inhibit = none ∧ 4 ≤ (inhibitedRows s).length) := fun ⟨hi, hl⟩ =>
    hroom.elim (fun hne => hne hi) fun hlt => Nat.not_lt.2 hl hlt
  rw [inhibitAnswer_of_row hm hr, if_neg (not_not_intro hn), if_neg (not_not_intro hc), if_neg room]

end

end Sys2Proof.Machine

open Sys2Proof Sys2Proof.Machine

/-- Settles O37: MAINT in both modes, the reported mode, the end of a warm reset, and the modes out of service, each from its lemma. -/
theorem maintenanceMode : Obligations.MaintenanceMode := by
  refine ⟨fun h s hr => ⟨fun hm => ⟨?on, ?offAlready⟩, fun hm => ⟨?onAlready, ?off⟩⟩, fun s => ⟨?operating, ?maintenance⟩, ?warm,
    ?out⟩
  case on => exact request_of_taken hr 12 maintOnAnswer
  case offAlready =>
    have answer := maintOffAnswer_of_not_maintenance (s := s) (by simp [hm])
    exact (request_of_taken hr 12 maintOffAnswer).trans (by rw [answer]; rfl)
  case onAlready => exact (request_of_taken hr 12 maintOnAnswer).trans (by rw [maintOnAnswer, setMode_self hm]; rfl)
  case off =>
    refine ⟨endInhibits (setMode s .operating), ?_, rfl, fun r => rowState_endInhibits _ r, rfl⟩
    exact request_performs hr (maintOffAnswer_of_maintenance hm)
  case operating | maintenance =>
    intro hm
    rw [buildStatus_mode_of_not_configFault (by simp [hm]), reportedMode, hm]
  case warm =>
    intro r s t hm hrestart hend ht
    cases ht
    simp only [hm, hrestart, hend, if_true, leaveWarmReset_mode]
  case out =>
    intro h s hm
    have unserved : inService s = false := by rcases hm with hm | hm <;> simp [inService, hm]
    exact ⟨request_of_not_inService unserved 12 _, request_of_not_inService unserved 12 _⟩

/-- Settles O38: one lemma on the answer per check of R139, in their order, and the count of inhibited rows after the inhibit. -/
theorem inhibitChecksInOrder : Obligations.InhibitChecksInOrder := by
  intro h row seconds s hr
  refine ⟨fun hm => ?mode, fun hm hrow => ?noRow, fun r hm hpos => ?named⟩
  case mode => exact request_refuses hr (inhibitAnswer_of_not_maintenance hm)
  case noRow => exact request_refuses hr (inhibitAnswer_of_noRow hm (rowAt_of_outside hrow))
  case named =>
    have hat := rowAt_of_position hpos
    refine ⟨fun hn => ?outOfRange, fun hn hl ha => ?class_, fun hn hc => ⟨fun hi hl => ?full, fun hroom => ?room⟩⟩
    case outOfRange => exact request_refuses hr (inhibitAnswer_of_outOfRange hm hat hn)
    case class_ => exact request_refuses hr (inhibitAnswer_of_class hm hat hn hl ha)
    case full => exact request_refuses hr (inhibitAnswer_of_full hm hat hn hc hi hl)
    case room =>
      refine ⟨inhibitRow s r seconds, _, request_performs hr (inhibitAnswer_of_room hm hat hn hc hroom), rowState_updRow_same s r _, ?_,
        inhibitedRows_length_updRow s r _, rfl⟩
      exact fun x hx => rowState_updRow_of_ne s _ hx

end

section
/-! SUPPORT. The loader through what each command does of its own in its block, the sources a frame is chosen from, and that a node out of
service has none of them but the STATUS slot filled; settles O51. -/

namespace Sys2Proof.Machine

variable {s t : State}

/-! ### The loader through reactions and rows -/

@[simp] theorem settle_loader (s : State) : (settle s).loader = s.loader := (frame_settle s).loader

@[simp] theorem pulseRow_loader (s : State) (r : Row) : (pulseRow s r).loader = s.loader := (frame_pulseRow s r).loader

@[simp] theorem raiseRow_loader (s : State) (r : Row) : (raiseRow s r).loader = s.loader := (frame_raiseRow s r).loader

@[simp] theorem markFirstOut_loader (before s : State) : (markFirstOut before s).loader = s.loader := (frame_markFirstOut before s).loader

@[simp] theorem lowerRow_loader (s : State) (r : Row) : (lowerRow s r).loader = s.loader := by
  unfold lowerRow clearRemote
  dsimp only
  split <;> rfl

theorem loader_ite {c : Prop} [Decidable c] {a b : State} {l : Loader} (ha : a.loader = l) (hb : b.loader = l) :
    (if c then a else b).loader = l := by
  split
  · exact ha
  · exact hb

/-- The shape of most commands: where they act, the reactions follow their own effect. -/
theorem loader_settleIf {c : Prop} [Decidable c] (ht : t.loader = s.loader) : (if c then settle t else s).loader = s.loader :=
  loader_ite ((settle_loader t).trans ht) rfl

theorem loader_foldl {α : Type} {f : State → α → State} (hf : ∀ u a, (f u a).loader = u.loader) (l : List α) (s : State) :
    (l.foldl f s).loader = s.loader :=
  List.foldlRecOn (motive := fun u => u.loader = s.loader) l f rfl fun u hu a _ => (hf u a).trans hu

/-! ### Bays (01, 02) -/

@[simp] theorem markDegraded_loader (s : State) (b : BayIdx) : (markDegraded s b).loader = s.loader := loader_ite rfl rfl

@[simp] theorem integrate_loader (s : State) (b : BayIdx) : (integrate s b).loader = s.loader := by
  unfold integrate
  split
  · exact loader_ite rfl rfl
  · rfl

@[simp] theorem armEnd_loader (s : State) (b : BayIdx) : (armEnd s b).loader = s.loader := (frame_armEnd s b).loader

@[simp] theorem lateReboundOrHold_loader (s : State) (b : BayIdx) : (lateReboundOrHold s b).loader = s.loader :=
  loader_ite (loader_ite (frame_lateRebound _ b).loader rfl) (frame_lateRebound s b).loader

@[simp] theorem countEnergyOfBay_loader (s : State) (b : BayIdx) : (countEnergyOfBay s b).loader = s.loader := rfl

@[simp] theorem emptyBay_loader (s : State) (b : BayIdx) : (emptyBay s b).loader = s.loader := rfl

@[simp] theorem removePack_loader (s : State) (b : BayIdx) : (removePack s b).loader = s.loader := by
  unfold removePack
  dsimp only
  rw [updBay_loader, emptyBay_loader, updRecordOfBay_loader, countEnergyOfBay_loader,
    (frame_abandonIfOffering _ b).loader, (frame_coilOff s b).loader]

@[simp] theorem packLeaves_loader (s : State) (b : BayIdx) : (packLeaves s b).loader = s.loader := by
  unfold packLeaves
  dsimp only
  rw [emptyBay_loader]
  split
  · exact loader_ite (by simp) (by simp)
  · simp

@[simp] theorem packGone_loader (s : State) (b : BayIdx) : (packGone s b).loader = s.loader := by
  unfold packGone
  split
  case h_11 => exact packLeaves_loader s b
  case h_1 | h_2 | h_3 => rfl
  all_goals exact removePack_loader s b

@[simp] theorem packSensed_loader (s : State) (b : BayIdx) : (packSensed s b).loader = s.loader := loader_ite rfl rfl

@[simp] theorem presenceCheck_loader (s : State) (b : BayIdx) : (presenceCheck s b).loader = s.loader :=
  loader_ite (loader_ite (packSensed_loader _ b) (packSensed_loader _ b)) (packGone_loader _ b)

@[simp] theorem judgeRest_loader (s : State) (b : BayIdx) : (judgeRest s b).loader = s.loader := by
  unfold judgeRest
  dsimp only
  split
  · rfl
  · exact loader_ite (frame_rebound _ b).loader <|
      loader_ite (frame_enterQuarantine _ b _).loader <| loader_ite (frame_enterQuarantine _ b _).loader rfl

/-! ### Handover (04) -/

@[simp] theorem expireOffer_loader (s : State) (b : BayIdx) : (expireOffer s b).loader = s.loader := rfl

@[simp] theorem takeOffer_loader (s : State) (sender : Addr) (o : OfferPayload) : (takeOffer s sender o).loader = s.loader := by
  have answered (u : State) (x : HandoverBody) (hu : u.loader = s.loader) : (settle (queueHandover u sender x)).loader = s.loader := by
    rw [settle_loader, queueHandover_loader, hu]
  refine loader_ite (loader_ite (answered s _ rfl) ?_) rfl
  split
  · exact answered _ _ rfl
  · exact answered s _ rfl

@[simp] theorem backToSafe_loader (s : State) (b : BayIdx) : (backToSafe s b).loader = s.loader := rfl

@[simp] theorem enterReleasing_loader (s : State) (b : BayIdx) (dest : Addr) : (enterReleasing s b dest).loader = s.loader := rfl

@[simp] theorem endOffer_loader (s : State) (b : BayIdx) : (endOffer s b).loader = s.loader := rfl

@[simp] theorem lateAnswer_loader (s : State) (sender : Addr) (id : PackId) : (lateAnswer s sender id).loader = s.loader := by
  unfold lateAnswer
  split
  · exact loader_ite rfl rfl
  · rfl

@[simp] theorem takeAccept_loader (s : State) (sender : Addr) (id : PackId) : (takeAccept s sender id).loader = s.loader := by
  unfold takeAccept
  split
  · exact loader_ite (by simp) (by simp)
  · have late := lateAnswer_loader s sender id
    exact loader_ite late ((queueHandover_loader _ _ _).trans late)

@[simp] theorem takeDecline_loader (s : State) (sender : Addr) (id : PackId) (reason : DeclineReason) :
    (takeDecline s sender id reason).loader = s.loader := by
  unfold takeDecline
  split
  · simp
  · exact lateAnswer_loader s sender id

@[simp] theorem takeWithdraw_loader (s : State) (sender : Addr) (id : PackId) : (takeWithdraw s sender id).loader = s.loader := by
  unfold takeWithdraw
  split
  · exact loader_ite rfl rfl
  · rfl

@[simp] theorem takeLanded_loader (s : State) (id : PackId) : (takeLanded s id).loader = s.loader := by
  unfold takeLanded
  split
  · rfl
  · split
    · exact loader_ite rfl rfl
    all_goals rfl

/-! ### Zone, fire logic, discrete inputs (05, 06) -/

@[simp] theorem topUpCrossing_loader (before s : State) : (topUpCrossing before s).loader = s.loader := by
  have opened : (if s.zmeas.coTop.filtered && !before.zmeas.coTop.filtered then updZone s fun z => { z with topUp := true } else s).loader =
      s.loader := loader_ite rfl rfl
  exact loader_ite (loader_ite opened opened) rfl

@[simp] theorem settleLostOrAlarm_loader (s : State) : (settleLostOrAlarm s).loader = s.loader := loader_ite (loader_ite rfl rfl) rfl

@[simp] theorem arrive_loader (s : State) : (arrive s).loader = s.loader := by
  unfold arrive
  split
  · split
    · rfl
    · exact loader_ite (queueHandover_loader _ _ _) rfl
  · exact (pulseRow_loader _ _).trans (loader_ite rfl rfl)

@[simp] theorem feedComplete_loader (s : State) : (feedComplete s).loader = s.loader := by
  unfold feedComplete
  split
  · rfl
  · split
    · rfl
    · exact loader_ite rfl rfl

@[simp] theorem takeInputEvent_loader (s : State) (e : InputEvent) : (takeInputEvent s e).loader = s.loader := by
  unfold takeInputEvent
  split
  · exact presenceCheck_loader s _
  · exact packSensed_loader s _
  · exact packGone_loader s _
  · rfl
  · rfl
  · exact loader_ite rfl rfl
  · exact loader_ite rfl rfl
  · exact arrive_loader s
  · exact feedComplete_loader s
  all_goals rfl

/-! ### Peers (07, 09) -/

@[simp] theorem reportTrip_loader (s : State) (c : TripClass) (x : Sections) (sender : Addr) :
    (reportTrip s c x sender).loader = s.loader := loader_ite rfl (raiseRow_loader s _)

@[simp] theorem reportedTrips_loader (s : State) (sender : Addr) (p : StatusPayload) : (reportedTrips s sender p).loader = s.loader := by
  have fire : (if p.fireSections &&& ownSections s = 0 then s else reportTrip s .fire (p.fireSections &&& ownSections s) sender).loader =
      s.loader := loader_ite rfl (reportTrip_loader s _ _ _)
  exact loader_ite fire ((reportTrip_loader _ _ _ _).trans fire)

@[simp] theorem takeTrip_loader (s : State) (sender : Addr) (c : TripClass) (x : Sections) : (takeTrip s sender c x).loader = s.loader :=
  loader_ite rfl ((settle_loader _).trans (reportTrip_loader _ _ _ _))

@[simp] theorem setBackTimers_loader (s : State) (i : Fin 12) (age : Nat) : (setBackTimers s i age).loader = s.loader := by
  simp only [setBackTimers]

@[simp] theorem takeStatus_loader (s : State) (i : Fin 12) (hd : Header) (p : StatusPayload) : (takeStatus s i hd p).loader = s.loader := by
  unfold takeStatus
  refine loader_ite (loader_ite ?_ (settle_loader _)) rfl
  rw [settle_loader, reportedTrips_loader, setBackTimers_loader, updPeer_loader]

/-! ### A frame leaves (10) -/

@[simp] theorem offerLeaves_loader (s : State) (o : OfferPayload) : (offerLeaves s o).loader = s.loader := by
  unfold offerLeaves
  split <;> rfl

@[simp] theorem offerLeaves_bus (s : State) (o : OfferPayload) : (offerLeaves s o).bus = s.bus := by
  unfold offerLeaves
  split <;> rfl

@[simp] theorem handoverLeaves_loader (s : State) (f : HandoverFrame) : (handoverLeaves s f).loader = s.loader := by
  unfold handoverLeaves
  dsimp only
  split
  · exact offerLeaves_loader _ _
  all_goals rfl

@[simp] theorem handoverLeaves_bus (s : State) (f : HandoverFrame) :
    (handoverLeaves s f).bus = { s.bus with handover := s.bus.handover.drop 1 } := by
  unfold handoverLeaves
  dsimp only
  split
  · exact offerLeaves_bus _ _
  all_goals rfl

@[simp] theorem sourceLeaves_loader (s : State) (a : Attempt) : (sourceLeaves s a).loader = s.loader := by
  unfold sourceLeaves
  split
  case h_4 => exact loader_ite (handoverLeaves_loader s _) rfl
  all_goals rfl

@[simp] theorem frameLeft_loader (s : State) (a : Attempt) : (frameLeft s a).loader = s.loader := sourceLeaves_loader _ a

/-! ### Answers of requests (10.6) -/

theorem answerLoader_ite {c : Prop} [Decidable c] {a b : Answer} {l : Loader} (ha : a.state.loader = l) (hb : b.state.loader = l) :
    (if c then a else b).state.loader = l := by
  split
  · exact ha
  · exact hb

theorem answerLoader_settled {c : ResultCode} {p : ReplyPayload} {l : Loader} (ht : t.loader = l) :
    ({ result := c, payload := p, state := settle t } : Answer).state.loader = l := (settle_loader t).trans ht

theorem answerLoader_doneSettled {l : Loader} (ht : t.loader = l) : (doneSettled t).state.loader = l := (settle_loader t).trans ht

theorem admitAnswer_loader (bay : Byte) (id : PackId) (cls cells : Byte) (edecl : Option (BitVec 24)) (s : State) :
    (admitAnswer bay id cls cells edecl s).state.loader = s.loader := by
  unfold admitAnswer
  split
  · rfl
  · exact answerLoader_ite rfl <| answerLoader_ite rfl <| answerLoader_ite rfl <| answerLoader_ite rfl <|
      answerLoader_ite rfl (answerLoader_settled rfl)

theorem startAnswer_loader (bay : Byte) (s : State) : (startAnswer bay s).state.loader = s.loader := by
  unfold startAnswer
  split
  · rfl
  · exact answerLoader_ite (answerLoader_ite (answerLoader_doneSettled rfl) rfl) rfl

theorem rejectAnswer_loader (bay : Byte) (s : State) : (rejectAnswer bay s).state.loader = s.loader := by
  unfold rejectAnswer
  split
  · rfl
  · rename_i b _
    have rejected : (doneSettled (enterQuarantine s b .rejected)).state.loader = s.loader :=
      answerLoader_doneSettled (frame_enterQuarantine s b .rejected).loader
    split
    iterate 3 rfl
    all_goals exact rejected

@[simp] theorem clearBay_loader (s : State) (b : BayIdx) : (clearBay s b).loader = s.loader := by
  simp [clearBay, countCleared]

theorem clearBayAnswer_loader (bay : Byte) (s : State) : (clearBayAnswer bay s).state.loader = s.loader := by
  unfold clearBayAnswer
  split
  · rfl
  · split
    · rfl
    · exact answerLoader_ite (answerLoader_settled (clearBay_loader s _)) rfl

theorem clearChuteAnswer_loader (s : State) : (clearChuteAnswer s).state.loader = s.loader := by
  unfold clearChuteAnswer
  split
  · rfl
  · exact answerLoader_settled rfl

theorem resolveLostAnswer_loader (id : PackId) (s : State) : (resolveLostAnswer id s).state.loader = s.loader := by
  unfold resolveLostAnswer
  split
  · rfl
  · exact answerLoader_ite (answerLoader_doneSettled rfl) rfl

theorem zoneStartAnswer_loader (s : State) : (zoneStartAnswer s).state.loader = s.loader :=
  answerLoader_ite (answerLoader_ite (answerLoader_doneSettled rfl) rfl) rfl

theorem zoneStopAnswer_loader (s : State) : (zoneStopAnswer s).state.loader = s.loader := by
  refine answerLoader_ite ?_ rfl
  split
  case h_2 | h_3 | h_4 | h_5 => exact answerLoader_ite (answerLoader_doneSettled rfl) rfl
  all_goals rfl

theorem runAnswer_loader (s : State) : (runAnswer s).state.loader = s.loader := by
  refine answerLoader_ite ?_ rfl
  split
  · exact answerLoader_ite (answerLoader_doneSettled rfl) rfl
  all_goals rfl

theorem haltAnswer_loader (s : State) : (haltAnswer s).state.loader = s.loader := by
  refine answerLoader_ite ?_ rfl
  split
  · exact answerLoader_doneSettled rfl
  all_goals rfl

theorem ackAnswer_loader (scope : Byte) (s : State) : (ackAnswer scope s).state.loader = s.loader := by
  unfold ackAnswer
  split
  · rfl
  · exact loader_foldl (fun u r => updRow_loader u r _) _ s

theorem resetAnswer_loader (s : State) : (resetAnswer s).state.loader = s.loader :=
  answerLoader_settled (loader_foldl lowerRow_loader _ s)

theorem inhibitAnswer_loader (row : Byte) (seconds : BitVec 16) (s : State) : (inhibitAnswer row seconds s).state.loader = s.loader := by
  refine answerLoader_ite rfl ?_
  split
  · rfl
  · exact answerLoader_ite rfl <| answerLoader_ite rfl <| answerLoader_ite rfl (answerLoader_settled rfl)

theorem queryPackIdAnswer_loader (id : PackId) (s : State) : (queryPackIdAnswer id s).state.loader = s.loader := by
  unfold queryPackIdAnswer
  split <;> rfl

theorem queryPackBayAnswer_loader (bay : Byte) (s : State) : (queryPackBayAnswer bay s).state.loader = s.loader := by
  unfold queryPackBayAnswer
  split <;> rfl

theorem queryPackPositionAnswer_loader (position : Byte) (s : State) : (queryPackPositionAnswer position s).state.loader = s.loader :=
  answerLoader_ite rfl rfl

theorem queryCausesAnswer_loader (position : Byte) (s : State) : (queryCausesAnswer position s).state.loader = s.loader :=
  answerLoader_ite rfl rfl

/-! ### In service -/

theorem inService_congr (hl : t.loader = s.loader) : inService t = inService s := by
  unfold inService
  rw [hl]

theorem inService_of_loader (hl : t.loader = s.loader) (hs : inService s = true) : inService t = true := (inService_congr hl).trans hs

theorem inService_setMode (s : State) {m : Mode} (hm : m = .operating ∨ m = .maintenance) : inService (setMode s m) = true :=
  decide_eq_true hm

/-- MAINT leaves a node in service in one of its two modes (R138). -/
theorem maintOffAnswer_inService (hs : inService s = true) : inService (maintOffAnswer s).state = true := by
  by_cases hm : s.loader.mode = .maintenance
  · rw [maintOffAnswer_of_maintenance hm]
    exact inService_of_loader (answerLoader_doneSettled rfl) (inService_setMode s (.inl rfl))
  · rw [maintOffAnswer_of_not_maintenance hm]
    exact hs

theorem leaveWarmReset_inService (s : State) (r : Restarting) : inService (leaveWarmReset s r) = true :=
  decide_eq_true (.inl (leaveWarmReset_mode s r))

/-! ### The sources beside the STATUS slot (R185, R186) -/

/-- The TRIP pending set, the handover FIFO and the REPLY FIFO. -/
def sources (u : Bus) : Option Sections × Option Sections × List HandoverFrame × List Reply :=
  (u.tripFire, u.tripThermal, u.handover, u.replies)

/-- Nothing waits in a source beside the STATUS slot. -/
def noSource : Option Sections × Option Sections × List HandoverFrame × List Reply := (none, none, [], [])

theorem silentSourcesEmpty_iff : SilentSourcesEmpty s ↔ (inService s = false → sources s.bus = noSource) := by
  simp [SilentSourcesEmpty, sources, noSource]

theorem silent_of_inService (hs : inService s = true) : SilentSourcesEmpty s := fun hout => absurd hs (by simp [hout])

theorem silent_of_noSource (hu : sources s.bus = noSource) : SilentSourcesEmpty s := silentSourcesEmpty_iff.2 fun _ => hu

theorem SilentSourcesEmpty.stay (h : SilentSourcesEmpty s) (hl : t.loader = s.loader) (hu : sources t.bus = sources s.bus) :
    SilentSourcesEmpty t :=
  silentSourcesEmpty_iff.2 fun hout => hu.trans (silentSourcesEmpty_iff.1 h ((inService_congr hl).symm.trans hout))

theorem SilentSourcesEmpty.ite {c : Prop} [Decidable c] (ht : c → SilentSourcesEmpty t) (hf : ¬c → SilentSourcesEmpty s) :
    SilentSourcesEmpty (if c then t else s) := by
  split
  · exact ht ‹_›
  · exact hf ‹_›

/-- A frame that leaves takes from its source, and puts nothing into one. -/
theorem frameLeft_noSource (a : Attempt) (h : sources s.bus = noSource) : sources (frameLeft s a).bus = noSource := by
  simp only [sources, noSource, Prod.mk.injEq] at h
  obtain ⟨hfire, hthermal, hhandover, hreplies⟩ := h
  unfold frameLeft sourceLeaves
  split
  case h_4 => split <;> simp [sources, noSource, hfire, hthermal, hhandover, hreplies]
  all_goals simp [sources, noSource, tripRemains, hfire, hthermal, hhandover, hreplies]

/-! ### Every command (R186) -/

/-- A command that answers a next state answers one whose sources are empty out of service. -/
def NextSilent (o : Host.Outcome State Fault Refusal) : Prop := ∀ t, o = .next t → SilentSourcesEmpty t

theorem nextSilent_next (h : SilentSourcesEmpty t) : NextSilent (.next t) := by
  intro u hu
  cases hu
  exact h

/-- What acts in service alone and leaves the loader alone leaves the node in service, and changes nothing out of service. -/
theorem nextSilent_serving (h : SilentSourcesEmpty s) {c : Prop} [Decidable c] (hc : c → inService s = true)
    (ht : t.loader = s.loader) : NextSilent (.next (if c then t else s)) :=
  nextSilent_next (.ite (fun k => silent_of_inService (inService_of_loader ht (hc k))) fun _ => h)

theorem nextSilent_whenServing {f : State → State} (h : SilentSourcesEmpty s) (hf : (f s).loader = s.loader) :
    NextSilent (whenServing s f) := nextSilent_serving h id hf

theorem inService_of_heardBroadcast {hd : Header} (hh : heardBroadcast s hd = true) : inService s = true := by
  simp only [heardBroadcast, Bool.and_eq_true] at hh
  exact hh.1.1

theorem inService_of_heardOwn {hd : Header} (hh : heardOwn s hd = true) : inService s = true := by
  simp only [heardOwn, Bool.and_eq_true] at hh
  exact hh.1.1

theorem inService_of_heardOwn_and {hd : Header} {k : Bool} (hh : (heardOwn s hd && k) = true) : inService s = true :=
  inService_of_heardOwn (Bool.and_elim_left hh)

theorem nextSilent_request {f : State → Answer} (hd : Header) (kind : Byte) (h : SilentSourcesEmpty s)
    (hf : inService s = true → inService (f s).state = true) : NextSilent (request hd kind f s) := by
  have answered (u : State) (r : Reply) (hu : inService u = true) : SilentSourcesEmpty (queueReply u r) :=
    silent_of_inService (inService_of_loader (queueReply_loader u r) hu)
  exact nextSilent_next <| .ite (fun hh => .ite
    (fun _ => .ite (fun _ => answered _ _ (hf (inService_of_heardOwn hh))) fun _ => h)
    fun _ => .ite (fun _ => answered s _ (inService_of_heardOwn hh)) fun _ => h) fun _ => h

/-- The load ends in OPERATING, or in CONFIG_FAULT with nothing but the STATUS slot filled (R201, R202). -/
theorem endLoad_silent (memory : List Byte) (fields : ImageFields) (h : SilentSourcesEmpty s) (hm : s.loader.mode = .starting) :
    SilentSourcesEmpty (endLoad s memory fields) := by
  have empty : sources s.bus = noSource := silentSourcesEmpty_iff.1 h (by simp [inService, hm])
  have faulted (code : Fin 12) : SilentSourcesEmpty (enterConfigFault s code fields) := silent_of_noSource empty
  unfold endLoad
  dsimp only
  split
  · exact .ite (fun _ => silent_of_inService (inService_of_loader (settle_loader _) rfl)) fun _ => faulted _
  · exact faulted _

/-- RESTART empties every source as it takes the node out of service (R194). -/
theorem takeRestart_silent (hd : Header) (h : SilentSourcesEmpty s) (hs : inService s = true) : SilentSourcesEmpty (takeRestart s hd) :=
  .ite (fun _ => .ite (fun _ => silent_of_noSource rfl) fun _ => h) fun _ => .ite (fun _ => silent_of_inService hs) fun _ => h

theorem execWarmResetEnd_nextSilent (h : SilentSourcesEmpty s) : NextSilent (execWarmResetEnd s) := by
  refine nextSilent_next ?_
  split
  · exact .ite (fun _ => silent_of_inService (leaveWarmReset_inService s _)) fun _ => h
  · exact h

theorem execPairArrival_nextSilent (b : BayIdx) (v : BitVec 16) (vValid : Bool) (i : BitVec 16) (iValid : Bool)
    (h : SilentSourcesEmpty s) : NextSilent (execPairArrival b v vValid i iValid s) := by
  refine nextSilent_whenServing h (loader_settleIf (loader_ite ?late ?taken))
  case late => rw [lateReboundOrHold_loader, armEnd_loader, integrate_loader, markDegraded_loader]; rfl
  case taken => rw [armEnd_loader, integrate_loader, markDegraded_loader]; rfl

theorem execZoneArrival_nextSilent (o2a o2b h1 h2 : Reading) (h : SilentSourcesEmpty s) :
    NextSilent (execZoneArrival o2a o2b h1 h2 s) := by
  unfold execZoneArrival
  refine nextSilent_whenServing h ?_
  split
  · rfl
  · rw [settle_loader, settleLostOrAlarm_loader, topUpCrossing_loader]
    rfl

theorem execDiscreteArrival_nextSilent (levels : List (DiscreteInput × Bool)) (h : SilentSourcesEmpty s) :
    NextSilent (execDiscreteArrival levels s) := by
  unfold execDiscreteArrival
  refine nextSilent_whenServing h ((markFirstOut_loader s _).trans ?_)
  rw [loader_foldl fun u e => (settle_loader _).trans (takeInputEvent_loader u e), loader_foldl pushInput_loader]

theorem execClosingWindowExpiry_nextSilent (b : BayIdx) (h : SilentSourcesEmpty s) : NextSilent (execClosingWindowExpiry b s) := by
  unfold execClosingWindowExpiry
  refine nextSilent_whenServing h ?_
  split
  · exact loader_settleIf rfl
  all_goals rfl

theorem execOpeningWindowExpiry_nextSilent (b : BayIdx) (h : SilentSourcesEmpty s) : NextSilent (execOpeningWindowExpiry b s) := by
  unfold execOpeningWindowExpiry
  refine nextSilent_whenServing h ?_
  split
  · exact loader_settleIf rfl
  all_goals rfl

theorem execDwellTimerStep_nextSilent (d : Fin 16) (h : SilentSourcesEmpty s) : NextSilent (execDwellTimerStep d s) := by
  unfold execDwellTimerStep
  refine nextSilent_whenServing h ?_
  split
  · rfl
  · exact loader_settleIf rfl

theorem execStatus_nextSilent (hd : Header) (p : StatusPayload) (h : SilentSourcesEmpty s) : NextSilent (execStatus hd p s) := by
  refine nextSilent_serving h inService_of_heardBroadcast ?_
  split
  · exact takeStatus_loader s _ hd p
  · rfl

theorem execStatusDue_nextSilent (h : SilentSourcesEmpty s) : NextSilent (execStatusDue s) := by
  refine nextSilent_next ?_
  split
  · exact .ite (fun _ => h.stay rfl rfl) fun _ => h
  · exact h

theorem execTransmitAttempt_nextSilent (h : SilentSourcesEmpty s) : NextSilent (execTransmitAttempt s) := by
  refine nextSilent_next ?_
  split
  · exact h.stay rfl rfl
  · exact h

theorem execCollision_nextSilent (h : SilentSourcesEmpty s) : NextSilent (execCollision s) := by
  refine nextSilent_next ?_
  split
  · exact h.stay rfl rfl
  · exact h

theorem execFrameLeaves_nextSilent (h : SilentSourcesEmpty s) : NextSilent (execFrameLeaves s) := by
  refine nextSilent_next ?_
  split
  · rename_i a _
    refine .ite (fun hs => ?served) fun hs => ?out
    case served => exact silent_of_inService (inService_of_loader ((settle_loader _).trans (frameLeft_loader s a)) hs)
    case out => exact silent_of_noSource (frameLeft_noSource a (silentSourcesEmpty_iff.1 h (Bool.eq_false_of_not_eq_true hs)))
  · exact h

/-- No command fills a source of a node out of service: the blocks that fill them act in service alone and keep the mode, a RESTART and a
COLD_RESET leave them empty, and what the transmitter and the load do out of service puts nothing into them. -/
theorem exec_nextSilent (i : Instr) (h : SilentSourcesEmpty s) : NextSilent (exec i s) := by
  have answers {f : State → Answer} (hd : Header) (kind : Byte) (hf : (f s).state.loader = s.loader) : NextSilent (request hd kind f s) :=
    nextSilent_request hd kind h (inService_of_loader hf)
  cases i with
  | coldReset pins => exact nextSilent_next (silent_of_noSource rfl)
  | loadEnd memory fields => exact nextSilent_next (.ite (endLoad_silent memory fields h) fun _ => h)
  | pairArrival b v vValid i iValid => exact execPairArrival_nextSilent b v vValid i iValid h
  | tbArrival b tb => exact nextSilent_whenServing h (loader_settleIf rfl)
  | zoneArrival o2a o2b h1 h2 => exact execZoneArrival_nextSilent o2a o2b h1 h2 h
  | discreteArrival levels => exact execDiscreteArrival_nextSilent levels h
  | spArrival pulses => exact nextSilent_whenServing h (loader_settleIf rfl)
  | secondBoundary => exact nextSilent_whenServing h (loader_ite (loader_ite (settle_loader _) rfl) rfl)
  | closingWindowExpiry b => exact execClosingWindowExpiry_nextSilent b h
  | openingWindowExpiry b => exact execOpeningWindowExpiry_nextSilent b h
  | restTimerExpiry b => exact nextSilent_whenServing h (loader_settleIf (judgeRest_loader s b))
  | offerBackoffExpiry b => exact nextSilent_whenServing h (loader_settleIf rfl)
  | rgPulseEnd b => exact nextSilent_whenServing h (loader_ite rfl rfl)
  | fpPulseEnd => exact nextSilent_whenServing h (loader_ite rfl rfl)
  | offerQueueExpiry b => exact nextSilent_whenServing h (loader_settleIf (expireOffer_loader s b))
  | answerWindowExpiry b => exact nextSilent_whenServing h (loader_settleIf (expireOffer_loader s b))
  | transitDeadlineExpiry id => exact nextSilent_whenServing h (loader_settleIf (expireTransit_loader s id))
  | reservationExpiry id => exact nextSilent_whenServing h (loader_settleIf (expireReservation_loader s id))
  | feedDeadlineExpiry => exact nextSilent_whenServing h (loader_settleIf (expireFeed_loader s))
  | purgeTimerExpiry => exact nextSilent_whenServing h (loader_settleIf (pulseRow_loader _ _))
  | settleTimerExpiry => exact nextSilent_whenServing h (loader_settleIf rfl)
  | floodTimerExpiry => exact nextSilent_whenServing h (loader_settleIf rfl)
  | persistenceTimerExpiry n => exact nextSilent_whenServing h (loader_settleIf rfl)
  | reformationTimerExpiry => exact nextSilent_whenServing h (loader_settleIf rfl)
  | dwellTimerStep d => exact execDwellTimerStep_nextSilent d h
  | inhibitExpiry r => exact nextSilent_whenServing h (loader_settleIf rfl)
  | stalenessDeadlineExpiry p => exact nextSilent_whenServing h (loader_settleIf rfl)
  | startWindowExpiry => exact nextSilent_whenServing h (loader_settleIf rfl)
  | statusDue => exact execStatusDue_nextSilent h
  | transmitBlockedWatch => exact nextSilent_whenServing h (loader_settleIf rfl)
  | transmitAttempt => exact execTransmitAttempt_nextSilent h
  | collision => exact execCollision_nextSilent h
  | backoffExpiry => exact nextSilent_next (.ite (fun _ => h.stay rfl rfl) fun _ => h)
  | frameLeaves => exact execFrameLeaves_nextSilent h
  | frameDiscarded raw => exact nextSilent_next h
  | status hd p => exact execStatus_nextSilent hd p h
  | trip hd c x => exact nextSilent_serving h inService_of_heardBroadcast (takeTrip_loader s _ c x)
  | offer hd o => exact nextSilent_serving h inService_of_heardOwn (takeOffer_loader s _ o)
  | accept hd id => exact nextSilent_serving h inService_of_heardOwn_and ((settle_loader _).trans (takeAccept_loader s _ id))
  | decline hd id reason =>
    exact nextSilent_serving h inService_of_heardOwn_and ((settle_loader _).trans (takeDecline_loader s _ id reason))
  | withdraw hd id => exact nextSilent_serving h inService_of_heardOwn_and ((settle_loader _).trans (takeWithdraw_loader s _ id))
  | landed hd id => exact nextSilent_serving h inService_of_heardOwn_and ((settle_loader _).trans (takeLanded_loader s id))
  | replyReceived hd payload => exact nextSilent_next h
  | requestMalformed hd kind => exact answers hd kind rfl
  | admitPack hd bay id cls cells edecl => exact answers hd 1 (admitAnswer_loader bay id cls cells edecl s)
  | start hd bay => exact answers hd 2 (startAnswer_loader bay s)
  | reject hd bay => exact answers hd 3 (rejectAnswer_loader bay s)
  | clearBay hd bay => exact answers hd 4 (clearBayAnswer_loader bay s)
  | clearChute hd => exact answers hd 4 (clearChuteAnswer_loader s)
  | resolveLost hd id => exact answers hd 5 (resolveLostAnswer_loader id s)
  | zoneStart hd => exact answers hd 6 (zoneStartAnswer_loader s)
  | zoneStop hd => exact answers hd 7 (zoneStopAnswer_loader s)
  | run hd => exact answers hd 8 (runAnswer_loader s)
  | halt hd => exact answers hd 9 (haltAnswer_loader s)
  | ack hd scope => exact answers hd 10 (ackAnswer_loader scope s)
  | reset hd => exact answers hd 11 (resetAnswer_loader s)
  | maintOn hd => exact nextSilent_request hd 12 h fun _ => inService_setMode s (.inr rfl)
  | maintOff hd => exact nextSilent_request hd 12 h maintOffAnswer_inService
  | inhibit hd row seconds => exact answers hd 13 (inhibitAnswer_loader row seconds s)
  | queryPackId hd id => exact answers hd 14 (queryPackIdAnswer_loader id s)
  | queryPackBay hd bay => exact answers hd 14 (queryPackBayAnswer_loader bay s)
  | queryPackPosition hd position => exact answers hd 14 (queryPackPositionAnswer_loader position s)
  | queryCauses hd position => exact answers hd 15 (queryCausesAnswer_loader position s)
  | queryLog hd entry => exact answers hd 16 rfl
  | queryCounts hd => exact answers hd 17 rfl
  | restart hd => exact nextSilent_next (.ite (fun hh => takeRestart_silent hd h (inService_of_heardOwn hh)) fun _ => h)
  | warmResetEnd => exact execWarmResetEnd_nextSilent h

theorem tick_silent (h : SilentSourcesEmpty s) : SilentSourcesEmpty (tick s) :=
  .ite (fun _ => h.stay rfl rfl) fun _ => h.stay rfl rfl

theorem step_silent (h : SilentSourcesEmpty s) (hstep : step s = .next t) : SilentSourcesEmpty t := by
  unfold step at hstep
  split at hstep
  · cases hstep
    exact tick_silent h
  · rename_i c rest _
    have popped : SilentSourcesEmpty { s with pending := rest } := h.stay rfl rfl
    exact exec_nextSilent c popped t hstep

/-! ### Attempts out of service (R177, R186) -/

/-- In CONFIG_FAULT the STATUS is the one frame to choose. -/
theorem chooseFrame_of_configFault (hm : s.loader.mode = .configFault) :
    chooseFrame s = if s.bus.statusPending then some (.status (faultStatus s)) else none := by
  simp [chooseFrame, inService, buildStatus, hm]

/-- In STARTING and in a warm reset there is no frame to choose. -/
theorem chooseFrame_of_silentMode (hm : s.loader.mode = .starting ∨ s.loader.mode = .warmReset) : chooseFrame s = none := by
  rcases hm with hm | hm <;> simp [chooseFrame, inService, hm]

theorem transmitAttempt_of_frame {f : TxFrame} (ha : s.bus.attempt = none) (hb : s.bus.backoffUntil = none)
    (hf : chooseFrame s = some f) :
    exec .transmitAttempt s =
      .next { s with bus := { s.bus with attempt := some { frame := f, seq := s.bus.sequence, held := true } } } := by
  simp [exec, execTransmitAttempt, ha, hb, hf, updBus]

theorem transmitAttempt_of_no_frame (hf : chooseFrame s = none) : exec .transmitAttempt s = .next s := by
  simp [exec, execTransmitAttempt, hf]

end Sys2Proof.Machine

open Sys2Proof Sys2Proof.Machine

/-- Settles O51: the sources as a step invariant, by a case split over the commands, and the attempts by the frame there is to choose. -/
theorem silentNodeSendsStatusAlone : Obligations.SilentNodeSendsStatusAlone := by
  refine ⟨⟨silent_of_noSource rfl, fun _ _ => step_silent⟩, fun s hm => ⟨fun ha hb hp => ?pending, fun hp => ?idle⟩, fun s hm => ?silent⟩
  case pending => exact transmitAttempt_of_frame ha hb (by rw [chooseFrame_of_configFault hm, hp, if_pos rfl])
  case idle => exact transmitAttempt_of_no_frame (by rw [chooseFrame_of_configFault hm, hp, if_neg Bool.false_ne_true])
  case silent => exact transmitAttempt_of_no_frame (chooseFrame_of_silentMode hm)

end

section
/-! SUPPORT. Moves: the guarded updates of which every command and every reaction is made, so that an invariant is judged once for each
kind of move and the commands are walked through once for all of them. -/

namespace Sys2Proof.Machine

/-! ### Kinds of moves -/

/-- A record changed in none of the fields that the places and the queue read, but for a destination given up or one that no releasing bay
holds. -/
structure SameRole (s : State) (r t : PackRecord) : Prop where
  id : t.id = r.id
  stage : t.stage = r.stage
  bay : t.bay = r.bay
  origin : t.origin = r.origin
  dest : t.dest = r.dest ∨ t.dest = none ∨ ∀ b, r.bay = some b → s.bays[b].state ≠ .releasing

/-- A record that has no slot of the infeed queue and no releasing bay. -/
structure Unslotted (s : State) (r : PackRecord) : Prop where
  stage : r.stage = .atBay ∨ r.stage = .missing ∨ r.stage = .unidentified ∨
    (r.stage = .inTransit ∧ r.origin ≠ some s.loader.address)
  bay : r.stage = .atBay → ∀ b, r.bay = some b → s.bays[b].state ≠ .releasing

/-- A zone controller's change in service that leaves the queue alone, LOCKOUT and a kept FIRE as they are, and starts a pulse in RUNNING
alone. -/
structure ZoneMove (s : State) (z : Zone) : Prop where
  serving : inService s = true
  queue : z.queue = s.zone.queue
  locked : s.zone.state = .lockout → z.state = .lockout ∧ (s.zone.fpUntil = none → z.fpUntil = none)
  kept : s.zone.state = .fire → z.state = .fire ∨ s.fire.zoneKept = false
  pulse : z.fpUntil ≠ none → z.state = .running ∨ (z.state = s.zone.state ∧ s.zone.fpUntil ≠ none)

/-- A bus change that keeps the FIFOs within their sizes, and the sequence but where a frame leaves. -/
structure BusMove (c : Instr) (s : State) (u : Bus) : Prop where
  handover : u.handover.length ≤ s.bus.handover.length ∨ u.handover.length ≤ Config.handoverSize
  replies : u.replies.length ≤ s.bus.replies.length ∨ (inService s = true ∧ u.replies.length ≤ Config.replySize)
  sequence : u.sequence = s.bus.sequence ∨ c = .frameLeaves

/-- A change of the cause table that leaves every row raised or lowered and with its condition, the log but for marks and cleared times,
and the originators. -/
structure CausesMove (s : State) (k : Causes) : Prop where
  raised : ∀ i : Fin 66, k.rows[i].raised = s.causes.rows[i].raised
  condition : ∀ i : Fin 66, k.rows[i].condition = s.causes.rows[i].condition
  log : k.log.map LogEntry.number = s.causes.log.map LogEntry.number
  nextEntry : k.nextEntry = s.causes.nextEntry
  remoteFire : k.remoteFire = s.causes.remoteFire
  remoteThermal : k.remoteThermal = s.causes.remoteThermal

/-- The custody counters that a command may move: each one by its own command alone. -/
structure Counted (c : Instr) (a z : Counters) : Prop where
  admitted : z.admitted = a.admitted ∨ ∃ h bay id cls cells e, c = .admitPack h bay id cls cells e
  handedIn : z.handedIn = a.handedIn ∨ ∃ levels, c = .discreteArrival levels
  handedOut : z.handedOut = a.handedOut ∨ ∃ h id, c = .landed h id
  shredded : z.shredded = a.shredded ∨ ∃ levels, c = .discreteArrival levels
  cleared : z.cleared = a.cleared ∨ (∃ h bay, c = .clearBay h bay) ∨ ∃ h, c = .clearChute h
  lost : z.lost = a.lost ∨ ∃ h id, c = .resolveLost h id

/-- One guarded update by command c or by a reaction that it sets off. -/
inductive Move (c : Instr) : State → State → Prop where
  | senses (s : State) (d : Nat) (m : Vector BayMeasure 4) (z : ZoneMeasure) (p : Vector Peer 12) (u : Option Nat) (n : Nat) :
      Move c s { s with secondsDue := d, meas := m, zmeas := z, peers := p, startUntil := u, freeIndex := n }
  | fires (s : State) (f : Fire) (h : f.zoneKept = s.fire.zoneKept ∨ c = .reformationTimerExpiry) : Move c s { s with fire := f }
  | bay (s : State) (b : BayIdx) (f : Bay → Bay)
      (h : (f s.bays[b]).state = .releasing → s.bays[b].state = .releasing ∨
        ((recordOfBay s b).bind PackRecord.dest = some s.loader.address → s.handover[b].claim = true)) : Move c s (updBay s b f)
  | claims (s : State) (b : BayIdx) (f : Handover → Handover)
      (h : (f s.handover[b]).claim = s.handover[b].claim ∨ (f s.handover[b]).claim = true ∧ placesTaken s < Config.queueSize) :
      Move c s (updHandover s b f)
  | givesUp (s : State) (b : BayIdx) :
      Move c s (updRecordOfBay (updHandover s b fun x => { x with claim := false }) b fun r => { r with dest := none, deadline := none })
  | marks (s : State) (l : List PackRecord) (h : List.Forall₂ (SameRole s) s.packs.records l) : Move c s (updRecords s fun _ => l)
  | tallies (s : State) (p : PackTable) (h : p.records = s.packs.records) (k : Counted c s.packs.counters p.counters) :
      Move c s { s with packs := p }
  | enters (s : State) (r : PackRecord) (free : recordFree s = true) (fresh : ∀ id, r.id = some id → recordOfId s id = none)
      (bay : ∀ b, r.bay = some b → s.bays[b].state ≠ .releasing) : Move c s (addRecord s r)
  | reserves (s : State) (r : PackRecord) (id : PackId) (free : recordFree s = true) (hid : r.id = some id)
      (fresh : recordOfId s id = none) (stage : r.stage = .reserved) (room : placesTaken s < Config.queueSize) :
      Move c s (updZone (addRecord s r) fun z => { z with queue := z.queue ++ [id] })
  | removes (s : State) (p : PackRecord → Bool) (r : PackRecord) (hr : s.packs.records.find? p = some r) (h : Unslotted s r) :
      Move c s (updRecords s fun l => l.eraseP p)
  | removesSlot (s : State) (id : PackId) (r : PackRecord) (hr : recordOfId s id = some r) (h : r.stage ≠ .atBay) :
      Move c s (dropSlot (removeRecordOfId s id) id)
  | retires (s : State) (p : PackRecord → Bool) (r : PackRecord) (f : PackRecord → PackRecord)
      (hr : s.packs.records.find? p = some r) (h : Unslotted s r) (hid : (f r).id = r.id) (stage : (f r).stage ≠ .atBay) :
      Move c s (updRecords s (modifyFirst p f))
  | retiresSlot (s : State) (id : PackId) (r : PackRecord) (f : PackRecord → PackRecord) (hr : recordOfId s id = some r)
      (h : r.stage ≠ .atBay) (hid : (f r).id = r.id) (stage : (f r).stage ≠ .atBay) :
      Move c s (dropSlot (updRecordOfId s id f) id)
  | leavesInside (s : State) (b : BayIdx) (id : PackId) (r : PackRecord) (f : PackRecord → PackRecord) (hr : recordOfBay s b = some r)
      (hid : r.id = some id) (dest : r.dest = some s.loader.address) (hb : s.bays[b].state = .releasing)
      (fid : (f r).id = r.id) (stage : (f r).stage = .inTransit) (origin : (f r).origin = some s.loader.address) :
      Move c s (emptyBay (updZone (updHandover (updRecordOfBay s b f) b fun x => { x with claim := false })
        fun z => { z with queue := z.queue ++ [id] }) b)
  | arrives (s : State) (id : PackId) (r : PackRecord) (f : PackRecord → PackRecord) (ha : awaitingSlot s = some id)
      (hr : recordOfId s id = some r) (fid : (f r).id = r.id) (stage : (f r).stage = .waiting) : Move c s (updRecordOfId s id f)
  | feeds (s : State) (id : PackId) (hq : s.zone.queue.head? = some id) (hw : slotStage s id = some .waiting) :
      Move c s (updRecordOfId s id (toStage s .feeding))
  | zone (s : State) (z : Zone) (h : ZoneMove s z) : Move c s { s with zone := z }
  | bus (s : State) (u : Bus) (h : BusMove c s u) : Move c s { s with bus := u }
  | causes (s : State) (k : Causes) (h : CausesMove s k) : Move c s { s with causes := k }
  | row (s : State) (r : Row) (f : RowState → RowState) (up : latched r = true → (rowState s r).raised = true → (f (rowState s r)).raised = true)
      (clear : latched r = false → (f (rowState s r)).raised = (f (rowState s r)).condition) : Move c s (updRow s r f)
  | raises (s : State) (r : Row) : Move c s (raiseRow s r)
  | lowers (s : State) (r : Row) (h : latched r = false ∨ ∃ hd, c = .reset hd) : Move c s (lowerRow s r)
  | reports (s : State) (k : TripClass) (x : Remote)
      (h : x.originators.length ≤ (remoteOf s k).originators.length ∨ x.originators.length ≤ Config.originatorSize) :
      Move c s (setRemote s k x)

/-- Moves one after another. -/
def Moves (c : Instr) : State → State → Prop := Relation.ReflTransGen (Move c)

variable {c : Instr} {s t u : State}

theorem Moves.refl : Moves c s s := Relation.ReflTransGen.refl

theorem Moves.trans (h : Moves c s t) (k : Moves c t u) : Moves c s u := Relation.ReflTransGen.trans h k

theorem Move.moves (h : Move c s t) : Moves c s t := Relation.ReflTransGen.single h

theorem Moves.ite {p : Prop} [Decidable p] (ht : p → Moves c s t) (hu : ¬p → Moves c s u) : Moves c s (if p then t else u) := by
  split
  · exact ht ‹_›
  · exact hu ‹_›

theorem moves_foldl {α : Type} {f : State → α → State} (l : List α) (h : ∀ u a, a ∈ l → Moves c u (f u a)) (s : State) :
    Moves c s (l.foldl f s) := by
  induction l generalizing s with
  | nil => exact .refl
  | cons a l ih => exact (h s a (.head _)).trans (ih (fun u b hb => h u b (.tail _ hb)) (f s a))

/-! ### Plain updates as moves -/

theorem moves_updMeas (s : State) (b : BayIdx) (f : BayMeasure → BayMeasure) : Moves c s (updMeas s b f) :=
  (Move.senses s s.secondsDue _ s.zmeas s.peers s.startUntil s.freeIndex).moves

theorem moves_updZMeas (s : State) (f : ZoneMeasure → ZoneMeasure) : Moves c s (updZMeas s f) :=
  (Move.senses s s.secondsDue s.meas _ s.peers s.startUntil s.freeIndex).moves

theorem moves_updPeer (s : State) (p : Fin 12) (f : Peer → Peer) : Moves c s (updPeer s p f) :=
  (Move.senses s s.secondsDue s.meas s.zmeas _ s.startUntil s.freeIndex).moves

theorem moves_takeChoice (s : State) : Moves c s (takeChoice s).2 :=
  (Move.senses s s.secondsDue s.meas s.zmeas s.peers s.startUntil _).moves

theorem moves_updFire (s : State) (f : Fire → Fire) (h : (f s.fire).zoneKept = s.fire.zoneKept := by rfl) : Moves c s (updFire s f) :=
  (Move.fires s (f s.fire) (.inl h)).moves

/-- A bay changed without entering RELEASING. -/
theorem moves_updBay (s : State) (b : BayIdx) (f : Bay → Bay) (h : (f s.bays[b]).state = .releasing → s.bays[b].state = .releasing := by nofun) :
    Moves c s (updBay s b f) := (Move.bay s b f fun k => .inl (h k)).moves

/-- What the handover engine keeps for a bay changed, but for its claim. -/
theorem moves_updHandover (s : State) (b : BayIdx) (f : Handover → Handover) (h : ∀ x, (f x).claim = x.claim := by intro _; rfl) :
    Moves c s (updHandover s b f) := (Move.claims s b f (.inl (h _))).moves

theorem SameRole.refl (s : State) (r : PackRecord) : SameRole s r r := ⟨rfl, rfl, rfl, rfl, .inl rfl⟩

theorem sameRole_modifyFirst (s : State) (p : PackRecord → Bool) (f : PackRecord → PackRecord) (l : List PackRecord)
    (h : ∀ r, p r = true → SameRole s r (f r)) : List.Forall₂ (SameRole s) l (modifyFirst p f l) := by
  induction l with
  | nil => exact .nil
  | cons x xs ih =>
    unfold modifyFirst
    split
    · exact .cons (h x ‹_›) (List.forall₂_same.2 fun r _ => .refl s r)
    · exact .cons (.refl s x) ih

/-- Fields of a pack's record changed that neither the places nor the queue read. -/
theorem moves_updRecordOfBay (s : State) (b : BayIdx) (f : PackRecord → PackRecord)
    (h : ∀ r, r.bay = some b → SameRole s r (f r) := by exact fun _ _ => ⟨rfl, rfl, rfl, rfl, .inl rfl⟩) :
    Moves c s (updRecordOfBay s b f) :=
  (Move.marks s _ (sameRole_modifyFirst s (isAtBay b) f _ fun r hr => h r (by simp [isAtBay] at hr; exact hr.2))).moves

theorem moves_updRecordOfId (s : State) (id : PackId) (f : PackRecord → PackRecord) (h : ∀ r, SameRole s r (f r) := by exact fun _ => ⟨rfl, rfl, rfl, rfl, .inl rfl⟩) : Moves c s (updRecordOfId s id f) := (Move.marks s _ (sameRole_modifyFirst s (hasId id) f _ fun r _ => h r)).moves

theorem moves_updBus (s : State) (f : Bus → Bus) (h : BusMove c s (f s.bus)) : Moves c s (updBus s f) := (Move.bus s _ h).moves

/-- Neither the FIFOs nor the sequence change. -/
theorem moves_bus (s : State) (f : Bus → Bus) (h : (f s.bus).handover = s.bus.handover := by rfl)
    (k : (f s.bus).replies = s.bus.replies := by rfl) (q : (f s.bus).sequence = s.bus.sequence := by rfl) : Moves c s (updBus s f) :=
  moves_updBus s f ⟨.inl (by rw [h]), .inl (by rw [k]), .inl q⟩

theorem moves_queueHandover (s : State) (d : Addr) (x : HandoverBody) : Moves c s (queueHandover s d x) := by
  refine .ite (fun hf => moves_updBus s _ ⟨.inr ?_, .inl le_rfl, .inl rfl⟩) fun _ => .refl
  have room : s.bus.handover.length < Config.handoverSize := by simpa [handoverFree] using hf
  rw [List.length_append]
  exact room

theorem moves_dropOffer (s : State) (b : BayIdx) : Moves c s (dropOffer s b) :=
  moves_updBus s _ ⟨.inl (List.length_filter_le _ _), .inl le_rfl, .inl rfl⟩

theorem moves_queueTrip (s : State) (k : TripClass) (x : Sections) : Moves c s (queueTrip s k x) := by
  cases k <;> exact moves_bus s _

/-- The state and the pulse of the zone stay. -/
theorem moves_updZone (s : State) (f : Zone → Zone) (hs : inService s = true) (hq : (f s.zone).queue = s.zone.queue := by rfl)
    (hz : (f s.zone).state = s.zone.state := by rfl)
    (hp : (f s.zone).fpUntil = s.zone.fpUntil ∨ (f s.zone).fpUntil = none := by exact .inl rfl) :
    Moves c s (updZone s f) := by
  refine (Move.zone s _ ⟨hs, hq, fun h => ⟨hz.trans h, fun k => ?_⟩, fun h => .inl (hz.trans h), fun k => .inr ⟨hz, ?_⟩⟩).moves
  · rcases hp with hp | hp
    · exact hp.trans k
    · exact hp
  · rcases hp with hp | hp
    · rwa [← hp]
    · exact absurd hp k

end Sys2Proof.Machine
end

section
/-! SUPPORT. The reactions of an event as moves: bays, zone, rows, and all that settle takes. -/

namespace Sys2Proof.Machine

variable {c : Instr} {s t u : State}

/-! ### Bays -/

theorem find?_modifyFirst {α : Type} {p : α → Bool} {f : α → α} (h : ∀ x, p x = true → p (f x) = true) (l : List α) :
    (modifyFirst p f l).find? p = (l.find? p).map f := by
  induction l with
  | nil => rfl
  | cons x xs ih =>
    unfold modifyFirst
    by_cases hx : p x = true
    · simp [hx, h x hx]
    · simp [hx, ih]

/-- The record of the pack in a bay after a change that leaves it at that bay. -/
theorem recordOfBay_updRecordOfBay (s : State) (b : BayIdx) (f : PackRecord → PackRecord)
    (h : ∀ r, (f r).stage = r.stage ∧ (f r).bay = r.bay) : recordOfBay (updRecordOfBay s b f) b = (recordOfBay s b).map f :=
  find?_modifyFirst (fun r hr => by simpa [isAtBay, h r] using hr) _

theorem moves_coilOff (s : State) (b : BayIdx) : Moves c s (coilOff s b) :=
  .ite (fun _ => moves_updBay s b _ id) fun _ => .refl

theorem moves_abandonOffer (s : State) (b : BayIdx) : Moves c s (abandonOffer s b) :=
  (moves_updHandover s b _).trans (moves_dropOffer _ b)

theorem moves_abandonIfOffering (s : State) (b : BayIdx) : Moves c s (abandonIfOffering s b) :=
  .ite (fun _ => moves_abandonOffer s b) fun _ => .refl

theorem moves_giveUpDest (s : State) (b : BayIdx) :
    Moves c s (updRecordOfBay s b fun r => { r with dest := none, deadline := none }) :=
  moves_updRecordOfBay s b _ fun _ _ => ⟨rfl, rfl, rfl, rfl, .inr (.inl rfl)⟩

theorem moves_releaseReservation (s : State) (b : BayIdx) : Moves c s (releaseReservation s b) := by
  unfold releaseReservation
  split
  · exact .refl
  · dsimp only
    split
    · split
      · exact (Move.givesUp s b).moves
      · exact (moves_queueHandover s _ _).trans (moves_giveUpDest _ b)
    · exact moves_giveUpDest s b

theorem moves_enterQuarantine (s : State) (b : BayIdx) (q : QuarantineReason) : Moves c s (enterQuarantine s b q) := by
  unfold enterQuarantine
  refine (((moves_coilOff s b).trans (moves_abandonIfOffering _ b)).trans ?_).trans (moves_updBay _ b _)
  split
  · exact moves_releaseReservation _ b
  · exact .refl

theorem moves_thermalQuarantine (s : State) (b : BayIdx) : Moves c s (thermalQuarantine s b) := by
  have mark : Moves c s (updRecordOfBay s b fun r => { r with thermal := true }) :=
    moves_updRecordOfBay s b _
  exact .ite (fun _ => mark.trans (moves_enterQuarantine _ b _)) fun _ => .ite (fun _ => mark) fun _ => .refl

theorem moves_enterConnecting (s : State) (b : BayIdx) : Moves c s (enterConnecting s b) := moves_updBay s b _

theorem moves_enterHeld (s : State) (b : BayIdx) (r : ReturnState) : Moves c s (enterHeld s b r) :=
  (moves_coilOff s b).trans (moves_updBay _ b _)

theorem moves_loseVerification (s : State) (b : BayIdx) : Moves c s (loseVerification s b) :=
  (moves_abandonIfOffering s b).trans (moves_updRecordOfBay _ b _)

theorem moves_rebound (s : State) (b : BayIdx) : Moves c s (rebound s b) := by
  have counted : Moves c s (updRecordOfBay s b fun r => { r with rebounds := r.rebounds + 1 }) :=
    moves_updRecordOfBay s b _
  exact .ite (fun _ => counted.trans (.ite (fun _ => moves_enterConnecting _ b) fun _ => moves_enterHeld _ b _)) fun _ =>
    moves_enterQuarantine s b _

theorem moves_enterResting (s : State) (b : BayIdx) : Moves c s (enterResting s b) :=
  ((moves_coilOff s b).trans (moves_updBay _ b _)).trans (Moves.ite (fun _ => moves_rebound _ b) fun _ => .refl)

theorem moves_armEnd (s : State) (b : BayIdx) : Moves c s (armEnd s b) :=
  .ite (fun _ => moves_updBay s b _ id) fun _ => .refl

theorem moves_enterDischarging (s : State) (b : BayIdx) : Moves c s (enterDischarging s b) :=
  ((moves_updBay s b _).trans (moves_armEnd _ b)).trans (Moves.ite (fun _ => moves_enterResting _ b) fun _ => .refl)

theorem moves_holdBay (s : State) (b : BayIdx) : Moves c s (holdBay s b) := by
  unfold holdBay
  split
  · exact moves_enterHeld s b _
  · exact moves_enterHeld s b _
  · exact moves_enterHeld s b _
  iterate 2 exact (moves_loseVerification s b).trans (moves_enterHeld _ b _)
  all_goals exact .refl

theorem moves_lateRebound (s : State) (b : BayIdx) : Moves c s (lateRebound s b) :=
  (moves_loseVerification s b).trans (moves_rebound _ b)

theorem moves_ownReaction {b : BayIdx} (h : ownReaction s b = some t) : Moves c s t := by
  unfold ownReaction at h
  split at h
  · split at h <;> cases h; exact moves_enterDischarging s b
  · split at h <;> cases h; exact moves_enterResting s b
  · split at h <;> cases h; exact moves_rebound s b
  all_goals cases h

theorem moves_holdOrReact (s : State) (b : BayIdx) : Moves c s (holdOrReact s b) := by
  unfold holdOrReact
  split
  · exact moves_holdBay s b
  · refine (moves_takeChoice s).trans (Moves.ite (fun _ => ?_) fun _ => moves_holdBay _ b)
    split
    · exact (moves_ownReaction ‹_›).trans (.ite (fun _ => moves_holdBay _ b) fun _ => .refl)
    · exact moves_holdBay _ b

theorem moves_obeyBay (s : State) (b : BayIdx) : Moves c s (obeyBay s b) :=
  .ite (fun _ => moves_holdOrReact s b) fun _ => .refl

theorem moves_backToSafe (s : State) (b : BayIdx) : Moves c s (backToSafe s b) := moves_updBay s b _

/-- The destination of a pack is set while its bay is not RELEASING. -/
theorem moves_setDest (s : State) (b : BayIdx) (d : Addr) (k : Option Nat) (hb : s.bays[b].state ≠ .releasing) :
    Moves c s (updRecordOfBay s b fun r => { r with dest := some d, deadline := k }) :=
  moves_updRecordOfBay s b _ fun _ hr =>
    ⟨rfl, rfl, rfl, rfl, .inr (.inr fun b' hb' => (Option.some.inj (hr.symm.trans hb') : b = b') ▸ hb)⟩

/-- A bay that enters RELEASING toward the own zone holds its claim. -/
theorem moves_enterReleasing (s : State) (b : BayIdx) (d : Addr) (hb : s.bays[b].state ≠ .releasing)
    (claim : d = s.loader.address → s.handover[b].claim = true) : Moves c s (enterReleasing s b d) := by
  unfold enterReleasing
  dsimp only
  refine (moves_setDest s b d _ hb).trans (Move.bay _ b _ fun _ => .inr fun hd => ?_).moves
  refine claim ?_
  rw [recordOfBay_updRecordOfBay] at hd
  case h => exact fun _ => ⟨rfl, rfl⟩
  cases hr : recordOfBay s b <;> simp_all

theorem room_of_zoneDeclines (h : zoneDeclines s = none) : placesTaken s < Config.queueSize := by
  unfold zoneDeclines at h
  split at h
  · cases h
  · split at h
    · cases h
    · split at h
      · cases h
      · omega

theorem moves_internalOffer (s : State) (b : BayIdx) (r : PackRecord) (hb : s.bays[b].state ≠ .releasing) :
    Moves c s (internalOffer s b r) := by
  unfold internalOffer
  split
  · rename_i h
    have room := room_of_zoneDeclines (Option.or_eq_none_iff.1 h).1
    exact (Move.claims s b _ (.inr ⟨rfl, room⟩)).moves.trans
      (moves_enterReleasing _ b _ hb fun _ => by simp)
  · exact (moves_backToSafe s b).trans (moves_updHandover _ b _)

theorem moves_offerIfReady {b : BayIdx} (hb : s.bays[b].state ≠ .releasing) (h : offerIfReady s b = some t) : Moves c s t := by
  unfold offerIfReady at h
  split at h
  · cases h
  · dsimp only at h
    split at h
    · split at h <;> cases h
      · exact moves_internalOffer s b _ hb
      · exact ((moves_queueHandover s _ _).trans (moves_updHandover _ b _)).trans (moves_updBay _ b _)
    · cases h

theorem moves_bayReact {b : BayIdx} (h : bayReact s b = some t) : Moves c s t := by
  unfold bayReact at h
  split at h
  iterate 2
    split at h
    · cases h; exact moves_holdOrReact s b
    · exact moves_ownReaction h
  · exact moves_ownReaction h
  · split at h
    · cases h
    · split at h
      · split at h <;> cases h; exact moves_enterConnecting s b
      · cases h; exact moves_enterResting s b
      · cases h; exact moves_enterResting s b
      · cases h
  · rename_i hb; exact moves_offerIfReady (by rw [hb]; nofun) h
  all_goals cases h

/-! ### Zone -/

/-- The zone takes a state other than out of LOCKOUT and out of a kept FIRE. -/
theorem moves_setZone (s : State) (st : ZoneState) (hs : inService s = true) (hl : s.zone.state ≠ .lockout)
    (hf : s.zone.state = .fire → st = .fire ∨ s.fire.zoneKept = false) : Moves c s (setZone s st) := by
  refine (Move.zone s { s.zone with
    state := st, since := if s.zone.state = st then s.zone.since else nodeCount s, fpUntil := if st = .running then s.zone.fpUntil else none }
    ⟨hs, rfl, fun h => absurd h hl, hf, fun k => .inl ?_⟩).moves
  by_contra hn
  exact k (if_neg hn)

theorem moves_stopAtmosphere (s : State) (hs : inService s = true) : Moves c s (stopAtmosphere s) :=
  moves_updZone s _ hs

theorem moves_expireFlood (s : State) (hs : inService s = true) : Moves c s (expireFlood s) :=
  moves_updZone s _ hs

section
variable (hs : inService s = true)
include hs

/-- A state entered with the atmosphere stopped and timers of the zone set. -/
theorem moves_enterZone (st : ZoneState) (f : Zone → Zone) (hl : s.zone.state ≠ .lockout)
    (hf : s.zone.state = .fire → st = .fire ∨ s.fire.zoneKept = false)
    (hz : ∀ z, (f z).queue = z.queue ∧ (f z).state = z.state ∧ (f z).fpUntil = z.fpUntil) :
    Moves c s (updZone (stopAtmosphere (setZone s st)) f) :=
  ((moves_setZone s st hs hl hf).trans (moves_stopAtmosphere _ hs)).trans
    (moves_updZone _ f hs (hz _).1 (hz _).2.1 (.inl (hz _).2.2))

theorem moves_enterAir (hl : s.zone.state ≠ .lockout) (hf : s.zone.state = .fire → s.fire.zoneKept = false) :
    Moves c s (enterAir s) := moves_enterZone hs .air _ hl (fun h => .inr (hf h)) fun _ => ⟨rfl, rfl, rfl⟩

theorem moves_enterPurging (hl : s.zone.state ≠ .lockout) (hf : s.zone.state ≠ .fire) : Moves c s (enterPurging s) :=
  moves_enterZone hs .purging _ hl (fun h => absurd h hf) fun _ => ⟨rfl, rfl, rfl⟩

theorem moves_enterInert (hl : s.zone.state ≠ .lockout) (hf : s.zone.state ≠ .fire) : Moves c s (enterInert s) :=
  moves_enterZone hs .inert _ hl (fun h => absurd h hf) fun _ => ⟨rfl, rfl, rfl⟩

theorem moves_enterReady (hl : s.zone.state ≠ .lockout) (hf : s.zone.state ≠ .fire) : Moves c s (enterReady s) :=
  (moves_setZone s .ready hs hl fun h => absurd h hf).trans (moves_updZone _ _ hs)

theorem moves_enterRunning (hl : s.zone.state ≠ .lockout) (hf : s.zone.state ≠ .fire) : Moves c s (enterRunning s) :=
  moves_setZone s .running hs hl fun h => absurd h hf

theorem moves_enterAlarm (hl : s.zone.state ≠ .lockout) (hf : s.zone.state ≠ .fire) : Moves c s (enterAlarm s) :=
  (moves_setZone s .alarm hs hl fun h => absurd h hf).trans (moves_stopAtmosphere _ hs)

theorem moves_enterFire : Moves c s (enterFire s) :=
  .ite (fun h => moves_enterZone hs .fire _ h.2 (fun _ => .inl rfl) fun _ => ⟨rfl, rfl, rfl⟩) fun _ => .refl

theorem moves_leaveFire (hl : s.zone.state ≠ .lockout) (hk : s.fire.zoneKept = false) : Moves c s (leaveFire s) :=
  .ite (fun _ => moves_enterZone hs .lockout _ hl (fun _ => .inr hk) fun _ => ⟨rfl, rfl, rfl⟩) fun _ => moves_enterAir hs hl fun _ => hk

theorem moves_obeyZone : Moves c s (obeyZone s) := by
  refine .ite (fun h => ?_) fun _ => .ite (fun h => ?_) fun _ => .refl
  · have hw : s.zone.state = .purging ∨ s.zone.state = .inert ∨ s.zone.state = .ready ∨ s.zone.state = .running := by
      simp only [zoneWorking, Bool.and_eq_true, decide_eq_true_eq] at h
      exact h.1
    exact moves_enterAlarm hs (by rintro e; simp [e] at hw) (by rintro e; simp [e] at hw)
  · have hr : s.zone.state = .running := by
      simp only [Bool.and_eq_true, decide_eq_true_eq] at h
      exact h.1
    exact moves_enterReady hs (by simp [hr]) (by simp [hr])

theorem moves_zoneReact (h : zoneReact s = some t) : Moves c s t := by
  unfold zoneReact at h
  split at h
  · cases h
  · split at h <;> rename_i hz
    · split at h <;> cases h
      rename_i hk
      exact moves_leaveFire hs (by simp [hz]) hk.2.2
    · split at h <;> cases h; exact moves_enterInert hs (by simp [hz]) (by simp [hz])
    · split at h <;> cases h; exact moves_enterPurging hs (by simp [hz]) (by simp [hz])
    · split at h <;> cases h; exact moves_enterReady hs (by simp [hz]) (by simp [hz])
    · split at h <;> cases h; exact moves_enterPurging hs (by simp [hz]) (by simp [hz])
    all_goals cases h

omit hs in
theorem running_of_feedPermit (hp : feedPermit s = true) : s.zone.state = .running := by
  simp only [feedPermit, Bool.and_eq_true, decide_eq_true_eq] at hp
  exact hp.1.1.1.1.1.1.2

omit hs in
theorem headWaiting_of_feedPermit (hp : feedPermit s = true) : headWaiting s = true := by
  simp only [feedPermit, Bool.and_eq_true] at hp
  exact hp.1.2

theorem moves_feedReact (h : feedReact s = some t) : Moves c s t := by
  unfold feedReact at h
  split at h <;> cases h
  rename_i hp
  have running := running_of_feedPermit hp
  have waiting := headWaiting_of_feedPermit hp
  unfold startFeed
  unfold headWaiting at waiting
  split
  · exact .refl
  · rename_i id rest hq
    rw [hq] at waiting
    simp only [Bool.and_eq_true, decide_eq_true_eq] at waiting
    have locked (z : Zone) (hl : s.zone.state = .lockout) : z.state = .lockout ∧ (s.zone.fpUntil = none → z.fpUntil = none) :=
      absurd (running.symm.trans hl) (by simp)
    have started (f : Zone → Zone) (hf : ∀ z, (f z).queue = z.queue ∧ (f z).state = z.state) :
        Moves c (updRecordOfId s id (toStage s .feeding)) (updZone (updRecordOfId s id (toStage s .feeding)) f) :=
      (Move.zone (updRecordOfId s id (toStage s .feeding)) _ ⟨hs, (hf _).1, locked _, fun k => .inl ((hf _).2.trans k), fun _ => .inl ((hf _).2.trans running)⟩).moves
    exact (Move.feeds s id (by rw [hq]; rfl) waiting.1).moves.trans (started _ fun _ => ⟨rfl, rfl⟩)

end

/-! ### Rows -/

theorem moves_handCondition (s : State) (r : Row) (k : Bool) : Moves c s (handCondition s r k) := by
  refine .ite (fun _ => .ite (fun hr => ?_) fun _ => (Move.raises s r).moves) fun _ =>
    .ite (fun hl => ?_) fun hl => (Move.lowers s r (.inl (by simpa using hl))).moves
  · exact (Move.row s r _ (fun _ h => h) fun _ => hr).moves
  · exact (Move.row s r _ (fun _ h => h) fun h => by simp [hl] at h).moves

theorem moves_pulseRow (s : State) (r : Row) (hl : latched r = true) : Moves c s (pulseRow s r) := by
  have fallen (u : State) (f : RowState → RowState) (hf : ∀ x, (f x).raised = x.raised) : Moves c u (updRow u r f) :=
    (Move.row u r f (fun _ h => (hf _).trans h) fun h => by simp [hl] at h).moves
  exact .ite (fun _ => fallen s _ fun _ => rfl) fun _ => (Move.raises s r).moves.trans (fallen _ _ fun _ => rfl)

theorem moves_onRaise (hs : inService s = true) (r : Row) : Moves c s (onRaise s r) := by
  unfold onRaise
  split
  iterate 4 exact moves_enterFire hs
  · exact moves_thermalQuarantine s _
  · exact .refl

/-- Moves in service, each of which leaves the node in service. -/
theorem moves_foldl_serving {α : Type} {f : State → α → State} (hl : ∀ u a, (f u a).loader = u.loader)
    (h : ∀ u a, inService u = true → Moves c u (f u a)) (l : List α) {s : State} (hs : inService s = true) :
    Moves c s (l.foldl f s) := by
  induction l generalizing s with
  | nil => exact .refl
  | cons a l ih => exact (h s a hs).trans (ih (inService_of_loader (hl s a) hs))

theorem moves_obeyRows (hs : inService s = true) : Moves c s (obeyRows s) :=
  (moves_obeyZone hs).trans (moves_foldl allBays (fun u b _ => moves_obeyBay u b) _)

theorem moves_handConditions (hs : inService s = true) (h : handConditions s = some t) : Moves c s t := by
  unfold handConditions at h
  dsimp only at h
  split at h
  · cases h
  · obtain rfl := Option.some.inj h
    have handed := frame_foldl (changedRows s) (fun u r => handCondition u r (conditionOf s r)) (fun u r => frame_handCondition u r _) s
    have hs' := inService_of_loader handed.loader hs
    have raisedOnes := frame_foldl ((changedRows s).filter fun r => conditionOf s r && !raised s r) onRaise frame_onRaise
      ((changedRows s).foldl (fun u r => handCondition u r (conditionOf s r)) s)
    exact ((moves_foldl _ (fun u r _ => moves_handCondition u r _) s).trans
      (moves_foldl_serving (fun u r => (frame_onRaise u r).loader) (fun u r hu => moves_onRaise hu r) _ hs')).trans
      (moves_obeyRows (inService_of_loader raisedOnes.loader hs'))

/-! ### All reactions -/

/-- One move, or the dwell timers as an event leaves them. -/
def Reaction (c : Instr) (s t : State) : Prop := Move c s t ∨ ∃ ts, t = { s with timers := ts }

theorem Moves.reactions (h : Moves c s t) : Relation.ReflTransGen (Reaction c) s t :=
  Relation.ReflTransGen.mono (p := Reaction c) (fun _ _ => Or.inl) _ _ h

theorem reaction_react {before : Vector Timer 16} (hs : inService s = true) (h : react before s = some t) :
    Relation.ReflTransGen (Reaction c) s t := by
  have lift (k : Moves c s t) : Relation.ReflTransGen (Reaction c) s t := k.reactions
  rcases react_cases h with h | h | h | ⟨b, h⟩ | h
  · exact lift (moves_handConditions hs h)
  · unfold timersReact at h
    dsimp only at h
    split at h <;> cases h
    exact .single (.inr ⟨_, rfl⟩)
  · exact lift (moves_zoneReact hs h)
  · exact lift (moves_bayReact h)
  · exact lift (moves_feedReact hs h)

/-- All that an event sets off is made of moves and of the dwell timers' transitions. -/
theorem reaction_settle (hs : inService s = true) : Relation.ReflTransGen (Reaction c) s (settle s) := by
  have both := settle_induction (P := fun u => inService u = true ∧ Relation.ReflTransGen (Reaction c) s u) s
    ⟨inService_of_loader (frame_obeyRows s).loader hs, (moves_obeyRows hs).reactions⟩
    fun u v hu hv => ⟨inService_of_loader (frame_react hv).loader hu.1, hu.2.trans (reaction_react hu.1 hv)⟩
  exact both.2

end Sys2Proof.Machine
end

section
/-! SUPPORT. Every command as acts: moves, the reactions of an event, and the few changes of mode and dwell timers. -/

namespace Sys2Proof.Machine

variable {c : Instr} {s t u : State}

theorem Move.loader (h : Move c s t) : t.loader = s.loader := by
  cases h with
  | raises r => exact raiseRow_loader _ r
  | lowers r _ => exact lowerRow_loader _ r
  | reports k x _ => cases k <;> rfl
  | _ => rfl

theorem Moves.loader (h : Moves c s t) : t.loader = s.loader := by
  induction h with
  | refl => rfl
  | tail _ hk ih => exact hk.loader.trans ih

theorem Moves.serving (h : Moves c s t) (hs : inService s = true) : inService t = true := inService_of_loader h.loader hs

/-! ### Bays (01, 02) -/

theorem moves_markDegraded (s : State) (b : BayIdx) : Moves c s (markDegraded s b) :=
  .ite (fun _ => moves_updRecordOfBay s b _) fun _ => .refl

theorem integrateRecord_role (s : State) (period : Nat) (v i : Int) (r : PackRecord) : SameRole s r (integrateRecord period v i r) := by
  unfold integrateRecord
  split
  · exact .refl s r
  · exact ⟨rfl, rfl, rfl, rfl, .inl rfl⟩

theorem moves_integrate (s : State) (b : BayIdx) : Moves c s (integrate s b) := by
  unfold integrate
  split
  · exact .ite (fun _ => moves_updRecordOfBay s b _ fun r _ => integrateRecord_role s _ _ _ r) fun _ => .refl
  · exact .refl

theorem moves_lateReboundOrHold (s : State) (b : BayIdx) : Moves c s (lateReboundOrHold s b) :=
  .ite (fun _ => (moves_takeChoice s).trans (.ite (fun _ => moves_lateRebound _ b) fun _ => .refl)) fun _ => moves_lateRebound s b

theorem moves_pairTaken (s : State) (b : BayIdx) (v i : Reading) :
    Moves c s (armEnd (integrate (markDegraded (measurePair s b v i) b) b) b) :=
  (((moves_updMeas s b _).trans (moves_markDegraded _ b)).trans (moves_integrate _ b)).trans (moves_armEnd _ b)

theorem counted_refl (a : Counters) : Counted c a a := ⟨.inl rfl, .inl rfl, .inl rfl, .inl rfl, .inl rfl, .inl rfl⟩

/-- Counters and totals changed, the records left alone. -/
theorem moves_updPacks (s : State) (f : PackTable → PackTable) (k : Counted c s.packs.counters (f s.packs).counters)
    (h : (f s.packs).records = s.packs.records := by rfl) : Moves c s (updPacks s f) := (Move.tallies s _ h k).moves

theorem moves_addDischarged (s : State) (e : Int) : Moves c s (addDischarged s e) :=
  moves_updPacks s _ (by exact counted_refl _)

theorem moves_addShredded (s : State) (r : Option Nat) : Moves c s (addShredded s r) :=
  moves_updPacks s _ (by exact counted_refl _)

theorem moves_updCounters (s : State) (f : Counters → Counters) (k : Counted c s.packs.counters (f s.packs.counters)) :
    Moves c s (updCounters s f) := moves_updPacks s _ (by exact k)

theorem moves_countEnergyOfBay (s : State) (b : BayIdx) : Moves c s (countEnergyOfBay s b) :=
  moves_addDischarged s _

theorem moves_emptyBay (s : State) (b : BayIdx) : Moves c s (emptyBay s b) :=
  (moves_updBay s b _).trans (moves_updMeas _ b _)

theorem coilOff_state (s : State) (b d : BayIdx) : (coilOff s b).bays[d].state = s.bays[d].state := by
  unfold coilOff
  split
  · by_cases e : b = d
    · subst e; simp only [updBay_same]
    · rw [updBay_other s b d _ e]
  · rfl

theorem abandonIfOffering_bays (s : State) (b : BayIdx) : (abandonIfOffering s b).bays = s.bays := by
  unfold abandonIfOffering
  split <;> rfl

theorem unslotted_of_atBay {b : BayIdx} {r : PackRecord} (hr : recordOfBay s b = some r) (hb : s.bays[b].state ≠ .releasing) :
    Unslotted s r := by
  have h := List.find?_some hr
  simp only [isAtBay, decide_eq_true_eq] at h
  exact ⟨.inl h.1, fun _ d hd => (Option.some.inj (h.2.symm.trans hd) : b = d) ▸ hb⟩

/-- The pack of a bay that is not RELEASING goes out of that bay's stage. -/
theorem moves_retireOfBay (s : State) (b : BayIdx) (f : PackRecord → PackRecord) (hb : s.bays[b].state ≠ .releasing)
    (hid : ∀ r, (f r).id = r.id) (stage : ∀ r, (f r).stage ≠ .atBay) : Moves c s (updRecordOfBay s b f) := by
  cases hr : recordOfBay s b with
  | none =>
    have same : updRecordOfBay s b f = s := by 
      unfold updRecordOfBay updRecords updPacks
      dsimp only
      rw [modifyFirst_of_find?_none f hr]
    rw [same]
    exact .refl
  | some r => exact (Move.retires s (isAtBay b) r f hr (unslotted_of_atBay hr hb) (hid r) (stage r)).moves

theorem moves_removePack (s : State) (b : BayIdx) (hb : s.bays[b].state ≠ .releasing) : Moves c s (removePack s b) := by
  have opened : Moves c s (countEnergyOfBay (abandonIfOffering (coilOff s b) b) b) :=
    ((moves_coilOff s b).trans (moves_abandonIfOffering _ b)).trans (moves_countEnergyOfBay _ b)
  have state : (countEnergyOfBay (abandonIfOffering (coilOff s b) b) b).bays[b].state = s.bays[b].state := by
    unfold countEnergyOfBay
    rw [addDischarged_bays, abandonIfOffering_bays, coilOff_state]
  unfold removePack
  refine ((opened.trans (moves_retireOfBay _ b _ ?_ ?_ ?_)).trans (moves_emptyBay _ b)).trans (moves_updBay _ b _ id)
  · rw [state]; exact hb
  · exact fun _ => rfl
  · exact fun _ => nofun

/-- A pack that leaves outside, or without an ID, goes out of the table's bay stage once its bay is empty. -/
theorem moves_leavesOutside (s : State) (b : BayIdx) (f : PackRecord → PackRecord) (hid : ∀ r, (f r).id = r.id)
    (stage : ∀ r, (f r).stage ≠ .atBay) : Moves c s (emptyBay (updRecordOfBay s b f) b) :=
  (moves_emptyBay s b).trans (moves_retireOfBay (emptyBay s b) b f (by simp [emptyBay]) hid stage)

theorem moves_packLeaves (s : State) (b : BayIdx) (hb : s.bays[b].state = .releasing) : Moves c s (packLeaves s b) := by
  unfold packLeaves
  refine (moves_countEnergyOfBay s b).trans ?_
  have hb' : (countEnergyOfBay s b).bays[b].state = .releasing := hb
  generalize countEnergyOfBay s b = v at hb' ⊢
  dsimp only
  have outside (o : PackRecord → Option Addr) :
      Moves c v (emptyBay (updRecordOfBay v b fun r => { toStage v .inTransit r with acc := none, origin := o r }) b) :=
    moves_leavesOutside v b _ (fun _ => rfl) fun _ => nofun
  split
  · rename_i id hid
    split
    · rename_i hin
      obtain ⟨r, hr, hrid⟩ := Option.bind_eq_some_iff.1 hid
      have dest : r.dest = some v.loader.address := by simpa [hr] using hin
      exact (Move.leavesInside v b id r _ hr hrid dest hb' rfl rfl rfl).moves
    · exact outside _
  · exact outside _

theorem moves_packGone (s : State) (b : BayIdx) : Moves c s (packGone s b) := by
  unfold packGone
  split
  · exact .refl
  · exact .refl
  · exact moves_updBay s b _
  iterate 7 exact moves_removePack s b (by simp only [*]; nofun)
  · exact moves_packLeaves s b ‹_›

theorem moves_packSensed (s : State) (b : BayIdx) : Moves c s (packSensed s b) :=
  .ite (fun _ => moves_updBay s b _) fun _ => .refl

theorem moves_presenceCheck (s : State) (b : BayIdx) : Moves c s (presenceCheck s b) := by
  have taken : Moves c s (updBay s b fun x => { x with presencePending := false }) := moves_updBay s b _ id
  exact taken.trans (.ite (fun _ => (moves_packSensed _ b).trans (.ite (fun _ => moves_updBay _ b _ id) fun _ => .refl)) fun _ =>
    moves_packGone _ b)

theorem moves_judgeRest (s : State) (b : BayIdx) : Moves c s (judgeRest s b) := by
  have stopped : Moves c s (updBay s b fun x => { x with restUntil := none }) := moves_updBay s b _ id
  refine stopped.trans ?_
  unfold judgeRest
  dsimp only
  split
  · exact .refl
  · exact .ite (fun _ => moves_rebound _ b) fun _ => .ite (fun _ => moves_enterQuarantine _ b _) fun _ =>
      .ite (fun _ => moves_enterQuarantine _ b _) fun _ => (moves_updBay _ b _).trans (moves_updRecordOfBay _ b _)

/-! ### Handover (04) -/

theorem moves_expireOffer (s : State) (b : BayIdx) : Moves c s (expireOffer s b) :=
  ((moves_abandonOffer s b).trans (moves_backToSafe _ b)).trans (moves_updRecordOfBay _ b _)

theorem moves_expireTransit (s : State) (id : PackId) : Moves c s (expireTransit s id) := by
  unfold expireTransit
  split
  · exact .refl
  · rename_i r hr
    split
    · rename_i hst
      dsimp only
      split
      · exact (Move.retiresSlot s id r _ hr (by rw [hst]; nofun) rfl (by nofun)).moves
      · rename_i ho
        exact (Move.retires s (hasId id) r _ hr ⟨.inr (.inr (.inr ⟨hst, ho⟩)), fun h => by rw [hst] at h; cases h⟩ rfl (by nofun)).moves
    · split
      · exact .ite (fun _ => (moves_releaseReservation s _).trans (moves_backToSafe _ _)) fun _ => .refl
      · exact .refl
    all_goals exact .refl

theorem moves_removeReservation {id : PackId} {r : PackRecord} (hr : recordOfId s id = some r) (hst : r.stage = .reserved) :
    Moves c s (removeReservation s id) := (Move.removesSlot s id r hr (by rw [hst]; nofun)).moves

theorem moves_expireReservation (s : State) (id : PackId) : Moves c s (expireReservation s id) := by
  refine .ite (fun h => ?_) fun _ => .refl
  obtain ⟨r, hr, hst⟩ := Option.map_eq_some_iff.1 h
  exact (moves_removeReservation hr hst).trans (moves_pulseRow _ .ac4 rfl)

theorem moves_reserve (s : State) (sender : Addr) (o : OfferPayload) (h : declines s o = none) : Moves c s (reserve s sender o) := by
  obtain ⟨hz, hrest⟩ := Option.or_eq_none_iff.1 h
  split at hrest
  · cases hrest
  · rename_i hfree
    split at hrest
    · cases hrest
    · rename_i hid
      exact (Move.reserves s (reservedRecord s sender o) o.id (by simpa using hfree) rfl (by simpa using hid) rfl
        (room_of_zoneDeclines hz)).moves.trans (moves_queueHandover _ _ _)

theorem moves_endOffer (s : State) (b : BayIdx) : Moves c s (endOffer s b) :=
  (moves_abandonOffer s b).trans (moves_updRecordOfBay _ b _)

theorem moves_lateAnswer (s : State) (sender : Addr) (id : PackId) : Moves c s (lateAnswer s sender id) := by
  unfold lateAnswer
  split
  · exact .ite (fun _ => moves_updRecordOfId s id _) fun _ => .refl
  · exact .refl

theorem offering_of_answeredBay {sender : Addr} {id : PackId} {b : BayIdx} (h : answeredBay s sender id = some b) :
    s.bays[b].state = .offering := by
  have := List.find?_some h
  simp only [Bool.and_eq_true, decide_eq_true_eq] at this
  exact this.1

theorem moves_takeAccept (s : State) (sender : Addr) (id : PackId) (hs : sender ≠ s.loader.address) :
    Moves c s (takeAccept s sender id) := by
  unfold takeAccept
  split
  · rename_i b hb
    have offering : (endOffer s b).bays[b].state ≠ .releasing := by
      rw [show (endOffer s b).bays = s.bays from rfl, offering_of_answeredBay hb]
      nofun
    exact (moves_endOffer s b).trans (.ite (fun _ => moves_enterReleasing _ b sender offering fun e => absurd e hs) fun _ =>
      (moves_backToSafe _ b).trans (moves_queueHandover _ _ _))
  · exact (moves_lateAnswer s sender id).trans (.ite (fun _ => .refl) fun _ => moves_queueHandover _ _ _)

theorem moves_takeDecline (s : State) (sender : Addr) (id : PackId) (reason : DeclineReason) :
    Moves c s (takeDecline s sender id reason) := by
  unfold takeDecline
  split
  · exact ((moves_endOffer s _).trans (moves_backToSafe _ _)).trans (moves_updHandover _ _ _)
  · exact moves_lateAnswer s sender id

theorem moves_takeWithdraw (s : State) (sender : Addr) (id : PackId) : Moves c s (takeWithdraw s sender id) := by
  unfold takeWithdraw
  split
  · exact .ite (fun h => moves_removeReservation ‹_› h.1) fun _ => .refl
  · exact .refl

theorem moves_countHandedOut (s : State) (hc : ∃ h id, c = .landed h id) : Moves c s (countHandedOut s) :=
  moves_updCounters s _ (by exact ⟨.inl rfl, .inl rfl, .inr hc, .inl rfl, .inl rfl, .inl rfl⟩)

theorem moves_takeLanded (s : State) (id : PackId) (hc : ∃ h id, c = .landed h id) : Moves c s (takeLanded s id) := by
  unfold takeLanded
  split
  · exact .refl
  · rename_i r hr
    split
    · rename_i hst
      dsimp only
      split
      · exact (Move.removesSlot s id r hr (by rw [hst]; nofun)).moves.trans (moves_countHandedOut _ hc)
      · rename_i ho
        exact (Move.removes s (hasId id) r hr ⟨.inr (.inr (.inr ⟨hst, ho⟩)), fun h => by rw [hst] at h; cases h⟩).moves.trans
          (moves_countHandedOut _ hc)
    · rename_i hst
      exact (Move.removes s (hasId id) r hr ⟨.inr (.inl hst), fun h => by rw [hst] at h; cases h⟩).moves.trans
        (moves_countHandedOut _ hc)
    all_goals exact .refl

/-! ### Zone, fire logic, discrete inputs (05, 06) -/

theorem moves_topUpCrossing (before s : State) (hs : inService s = true) : Moves c s (topUpCrossing before s) := by
  have opened : Moves c s (if s.zmeas.coTop.filtered && !before.zmeas.coTop.filtered then updZone s fun z => { z with topUp := true }
      else s) := .ite (fun _ => moves_updZone s _ hs) fun _ => .refl
  exact .ite (fun _ => opened.trans (.ite (fun _ => moves_updZone _ _ (opened.serving hs)) fun _ => .refl)) fun _ => .refl

theorem moves_settleLostOrAlarm (s : State) (hs : inService s = true) : Moves c s (settleLostOrAlarm s) := by
  refine .ite (fun h => (moves_takeChoice s).trans (.ite (fun _ => ?_) fun _ => .refl)) fun _ => .refl
  have inert : (takeChoice s).2.zone.state = .inert := h.1
  exact moves_enterPurging hs (by rw [inert]; nofun) (by rw [inert]; nofun)

theorem moves_pushInput (s : State) (x : DiscreteInput × Bool) : Moves c s (pushInput s x) := by
  refine .ite (fun _ => ?_) fun _ => .refl
  split
  · exact (moves_updMeas s _ _).trans (.ite (fun _ => moves_updBay _ _ _ id) fun _ => .refl)
  · exact moves_updMeas s _ _
  all_goals exact moves_updZMeas s _

theorem moves_contactCloses (s : State) (b : BayIdx) : Moves c s (contactCloses s b) := by
  refine moves_updBay s b _ ?_
  split
  · exact id
  · split <;> exact id

theorem moves_contactOpens (s : State) (b : BayIdx) : Moves c s (contactOpens s b) := by
  refine moves_updBay s b _ ?_
  split
  · split <;> exact id
  · split <;> exact id

theorem moves_updDetector (s : State) (n : Fin 4) (f : Detector → Detector) : Moves c s (updDetector s n f) :=
  moves_updFire s _

theorem moves_detectorRises (s : State) (n : Fin 4) : Moves c s (detectorRises s n) :=
  (moves_updDetector s n _).trans (.ite (fun _ => moves_updFire _ _) fun _ => .refl)

theorem moves_detectorFalls (s : State) (n : Fin 4) : Moves c s (detectorFalls s n) :=
  (moves_updDetector s n _).trans (.ite (fun _ => moves_updFire _ _) fun _ => .refl)

section
variable (hc : ∃ levels, c = .discreteArrival levels)
include hc

theorem moves_countHandedIn (s : State) : Moves c s (countHandedIn s) :=
  moves_updCounters s _ (by exact ⟨.inl rfl, .inr hc, .inl rfl, .inl rfl, .inl rfl, .inl rfl⟩)

theorem moves_arrive (s : State) : Moves c s (arrive s) := by
  unfold arrive
  split
  · rename_i id ha
    split
    · exact .refl
    · rename_i r hr
      have arrived : Moves c s (updRecordOfId s id fun x => { toStage s .waiting x with deadline := none }) :=
        (Move.arrives s id r _ ha hr rfl rfl).moves
      exact .ite (fun _ => (arrived.trans (moves_countHandedIn hc _)).trans (moves_queueHandover _ _ _)) fun _ => arrived
  · refine Moves.trans (.ite (fun hf => ?_) fun _ => .refl) (moves_pulseRow _ .ac3 rfl)
    exact (Move.enters s (unidentifiedRecord s) hf nofun nofun).moves.trans (moves_countHandedIn hc _)

theorem moves_feedComplete (s : State) (hs : inService s = true) : Moves c s (feedComplete s) := by
  unfold feedComplete
  split
  · exact .refl
  · rename_i id rest hq
    split
    · exact .refl
    · rename_i r hr
      refine .ite (fun hst => ?_) fun _ => .refl
      have removed : Moves c s (dropSlot (removeRecordOfId s id) id) := (Move.removesSlot s id r hr (by rw [hst]; nofun)).moves
      have counted (v : State) : Moves c v (updCounters (addShredded v r.residual) fun c => { c with shredded := c.shredded + 1 }) :=
        (moves_addShredded v _).trans (moves_updCounters _ _ (by exact ⟨.inl rfl, .inl rfl, .inl rfl, .inr hc, .inl rfl, .inl rfl⟩))
      have stopped (v : State) (hv : inService v = true) : Moves c v (updZone v fun z => { z with feedUntil := none }) :=
        moves_updZone v _ hv
      have chain := (removed.trans (counted _)).trans (stopped _ ((removed.trans (counted _)).serving hs))
      have head : s.zone.queue.erase id = s.zone.queue.drop 1 := by rw [hq]; simp
      simpa [updZone, updCounters, updPacks, addShredded, dropSlot, removeRecordOfId, updRecords, head] using chain

theorem moves_takeInputEvent (s : State) (hs : inService s = true) (e : InputEvent) : Moves c s (takeInputEvent s e) := by
  cases e with
  | presence b => exact moves_presenceCheck s b
  | rising x =>
    cases x with
    | pp b => exact moves_packSensed s b
    | kf b => exact moves_contactCloses s b
    | d n => exact moves_detectorRises s n
    | ar => exact moves_arrive hc s
    | fc => exact moves_feedComplete hc s hs
    | dc | g _ => exact .refl
  | falling x =>
    cases x with
    | pp b => exact moves_packGone s b
    | kf b => exact moves_contactOpens s b
    | d n => exact moves_detectorFalls s n
    | ar | fc | dc | g _ => exact .refl

end

theorem moves_expireFeed (s : State) (hs : inService s = true) : Moves c s (expireFeed s) :=
  .ite (fun _ => (moves_updZone s _ hs).trans (moves_pulseRow _ .ac7 rfl)) fun _ => moves_updZone s _ hs

/-! ### Peers and rows (07, 09) -/

theorem moves_updCauses (s : State) (f : Causes → Causes) (h : CausesMove s (f s.causes)) : Moves c s (updCauses s f) :=
  (Move.causes s _ h).moves

/-- Marks of rows and log entries that no invariant reads. -/
theorem moves_markFirstOut (before s : State) : Moves c s (markFirstOut before s) := by
  refine .ite (fun _ => .refl) fun _ => ?_
  split
  · exact .refl
  · refine moves_updCauses s _ ?_
    refine ⟨fun i => by simp, fun i => by simp, ?_, rfl, rfl, rfl⟩
    rw [List.map_map]
    exact List.map_congr_left fun e _ => by simp only [Function.comp_apply]; split <;> rfl

theorem moves_endInhibits (s : State) : Moves c s (endInhibits s) :=
  moves_updCauses s _ (by exact ⟨fun i => by simp, fun i => by simp, rfl, rfl, rfl, rfl⟩)

/-- A field of a row changed that is neither its condition nor whether it is raised. -/
theorem moves_updRow (s : State) (r : Row) (f : RowState → RowState) (hr : ∀ x, (f x).raised = x.raised)
    (hk : ∀ x, (f x).condition = x.condition) : Moves c s (updRow s r f) := by
  have field {α : Type} (g : RowState → α) (hg : ∀ x, g (f x) = g x) (i : Fin 66) :
      g ((s.causes.rows.set (rowIndex r).val (f s.causes.rows[rowIndex r]) (rowIndex r).isLt)[i]) = g s.causes.rows[i] := by
    by_cases e : rowIndex r = i
    · subst e; simp [hg]
    · have : (rowIndex r).val ≠ i.val := fun h => e (Fin.ext h)
      simp [this]
  exact moves_updCauses s _ (by exact ⟨field RowState.raised hr, field RowState.condition hk, rfl, rfl, rfl, rfl⟩)

theorem moves_reportTrip (s : State) (k : TripClass) (x : Sections) (sender : Addr) : Moves c s (reportTrip s k x sender) := by
  have merged (r : Remote) : (mergeRemote r x sender).originators.length ≤ r.originators.length ∨
      (mergeRemote r x sender).originators.length ≤ Config.originatorSize := by
    unfold mergeRemote
    split
    · exact .inl le_rfl
    · rename_i h
      have room := (not_or.1 h).2
      exact .inr (by simp only [List.length_append, List.length_singleton]; omega)
  exact .ite (fun _ => (Move.reports s k _ (merged _)).moves) fun _ =>
    (Move.raises s _).moves.trans (Move.reports _ k _ (.inr (by simp [Config.originatorSize]))).moves

theorem moves_tripCondition (s : State) (r : Row) : Moves c s (tripCondition s r) :=
  moves_updRow s r _ (fun _ => rfl) fun _ => rfl

theorem moves_reportedTrips (s : State) (sender : Addr) (p : StatusPayload) : Moves c s (reportedTrips s sender p) := by
  have fire : Moves c s (if p.fireSections &&& ownSections s = 0 then s else reportTrip s .fire (p.fireSections &&& ownSections s) sender) :=
    .ite (fun _ => .refl) fun _ => moves_reportTrip s _ _ _
  exact fire.trans (.ite (fun _ => .refl) fun _ => moves_reportTrip _ _ _ _)

end Sys2Proof.Machine
end

section
/-! SUPPORT. The walk through the commands: each is made of acts, and ends with the reactions of its event but for those that set off
nothing. -/

namespace Sys2Proof.Machine

variable {c : Instr} {s t u : State}

/-! ### Acts -/

/-- The node back in service at the end of a warm reset, before the deadlines that fell in it expire (R193). -/
def backInService (s : State) (r : Restarting) : State :=
  let t := updLoader s fun l => { l with mode := .operating, restart := none }
  let t := updFire (startService t) fun f =>
    { f with reformUntil := if hasZone t then some (t.now + ((cfg t).tconf + 1) * Config.second) else none }
  queueReply t { dest := r.terminal, kind := 18, seq := r.seq, result := .done, payload := .none }

theorem leaveWarmReset_eq (s : State) (r : Restarting) :
    leaveWarmReset s r = markFirstOut s (settle (expireAll (backInService s r))) := rfl

/-- One act of command c: a move, the reactions of an event, or one of the changes that a single command makes. -/
inductive Act (c : Instr) : State → State → Prop where
  | move {s t : State} (h : Move c s t) : Act c s t
  | settles (s : State) (hs : inService s = true) : Act c s (settle s)
  | dwells (s : State) (ts : Vector Timer 16) (h : TimersSound s → TimersSound { s with timers := ts }) : Act c s { s with timers := ts }
  | serves (s : State) (memory : List Byte) (fields : ImageFields) (i : Image) (hc : c = .loadEnd memory fields)
      (hm : s.loader.mode = .starting) (hd : decodedImage fields = some i) (hv : validate s.loader.address.toNat memory fields = 0) :
      Act c s (enterOperating s i)
  | faults (s : State) (memory : List Byte) (fields : ImageFields) (k : Fin 12) (hc : c = .loadEnd memory fields)
      (hm : s.loader.mode = .starting) : Act c s (enterConfigFault s k fields)
  | maintains (s : State) (m : Mode) (hs : inService s = true)
      (hc : (∃ hd, c = .maintOn hd ∧ m = .maintenance) ∨ ∃ hd, c = .maintOff hd ∧ m = .operating) : Act c s (setMode s m)
  | resets (s : State) (hd : Header) (hc : c = .restart hd) (hs : inService s = true) : Act c s (enterWarmReset s hd.sender hd.seq)
  | returns (s : State) (r : Restarting) (hc : c = .warmResetEnd) (hm : s.loader.mode = .warmReset) : Act c s (backInService s r)

/-- Acts one after another. -/
def Acts (c : Instr) : State → State → Prop := Relation.ReflTransGen (Act c)

theorem Acts.refl : Acts c s s := Relation.ReflTransGen.refl

theorem Acts.trans (h : Acts c s t) (k : Acts c t u) : Acts c s u := Relation.ReflTransGen.trans h k

theorem Act.acts (h : Act c s t) : Acts c s t := Relation.ReflTransGen.single h

theorem Moves.acts (h : Moves c s t) : Acts c s t := Relation.ReflTransGen.mono (p := Act c) (fun _ _ => Act.move) _ _ h

/-! ### How a command ends -/

/-- How a command ends: with nothing done, with the reactions of its event, with a REPLY to them or instead of them, with the first-out mark
of an arrival, or, for a command that sets off nothing and out of service, with a zone that stays clear. -/
inductive Ends (c : Instr) (s : State) : State → Prop where
  | same : Ends c s s
  | settled (u : State) : Ends c s (settle u)
  | answered (u : State) (r : Reply) : Ends c s (queueReply (settle u) r)
  | replied (r : Reply) : Ends c s (queueReply s r)
  | arrived (levels : List (DiscreteInput × Bool)) (u : State) (hc : c = .discreteArrival levels)
      (hu : u = levels.foldl pushInput s ∨ ∃ v, u = settle v) : Ends c s (markFirstOut s u)
  | calm (t : State) (hq : setsOffNothing c = true ∨ inService s = false) (h : RunsClear s → RunsClear t) : Ends c s t

/-- A command takes the node from s to t by acts, and ends so. -/
structure Ran (c : Instr) (s t : State) : Prop where
  acts : Acts c s t
  ends : Ends c s t

/-- Whatever next state an outcome answers, the command has run to it. -/
def RanTo (c : Instr) (s : State) (o : Host.Outcome State Fault Refusal) : Prop := ∀ t, o = .next t → Ran c s t

theorem ranTo_next (h : Ran c s t) : RanTo c s (.next t) := by
  intro u hu
  cases hu
  exact h

theorem Ran.same : Ran c s s := ⟨.refl, .same⟩

theorem Ran.ite {p : Prop} [Decidable p] (ht : p → Ran c s t) (hu : ¬p → Ran c s u) : Ran c s (if p then t else u) := by
  split
  · exact ht ‹_›
  · exact hu ‹_›

/-- Moves in service and then the reactions of the event. -/
theorem Ran.settled (hs : inService s = true) (h : Moves c s u) : Ran c s (settle u) :=
  ⟨h.acts.trans (Act.settles u (h.serving hs)).acts, .settled u⟩

/-- Moves that set off nothing and keep zone and rows. -/
theorem Ran.calm (hq : setsOffNothing c = true ∨ inService s = false) (h : Moves c s t)
    (hz : t.zone.state = s.zone.state := by rfl) (hk : t.causes = s.causes := by rfl) : Ran c s t :=
  ⟨h.acts, .calm t hq (runsClear_congr hz hk)⟩

theorem ranTo_whenServing {f : State → State} (h : inService s = true → Ran c s (f s)) : RanTo c s (whenServing s f) :=
  ranTo_next (.ite h fun _ => .same)

/-- A command in service that acts and sets off its reactions where its test passes. -/
theorem ranTo_settleIf {p : Prop} [Decidable p] (hs : p → inService s = true) (h : p → Moves c s u) :
    Ran c s (if p then settle u else s) := .ite (fun k => .settled (hs k) (h k)) fun _ => .same

/-! ### Answers of requests -/

/-- How the carrying out of a request ends, before its REPLY is queued. -/
structure AnswerRan (c : Instr) (s : State) (a : Answer) : Prop where
  acts : Acts c s a.state
  serving : inService a.state = true
  replies : a.state.bus.replies = s.bus.replies
  ends : a.state = s ∨ (∃ u, a.state = settle u) ∨ (setsOffNothing c = true ∧ (RunsClear s → RunsClear a.state))

theorem AnswerRan.ite {p : Prop} [Decidable p] {a b : Answer} (ha : p → AnswerRan c s a) (hb : ¬p → AnswerRan c s b) :
    AnswerRan c s (if p then a else b) := by
  split
  · exact ha ‹_›
  · exact hb ‹_›

section
variable (hs : inService s = true)
include hs

/-- A request that changes nothing: a refusal, a report, or a DONE. -/
theorem AnswerRan.nothing {a : Answer} (h : a.state = s) : AnswerRan c s a :=
  ⟨h ▸ .refl, h ▸ hs, by rw [h], .inl h⟩

theorem AnswerRan.refused (k : ResultCode) : AnswerRan c s (refuse s k) := .nothing hs rfl

/-- Moves that leave the REPLY FIFO alone, and then the reactions of the event. -/
theorem AnswerRan.settled {k : ResultCode} {p : ReplyPayload} (h : Moves c s u) (hr : u.bus.replies = s.bus.replies) :
    AnswerRan c s { result := k, payload := p, state := settle u } := by
  constructor <;> dsimp only
  · exact h.acts.trans (Act.settles u (h.serving hs)).acts
  · exact inService_of_loader (settle_loader u) (h.serving hs)
  · exact (frame_settle u).replies.trans hr
  · exact .inr (.inl ⟨u, rfl⟩)

theorem AnswerRan.carriedOut (h : Moves c s u) (hr : u.bus.replies = s.bus.replies) : AnswerRan c s (doneSettled u) := .settled hs h hr

/-- A carrying out that is itself a reaction of the model. -/
theorem AnswerRan.reacted (h : Moves c s u) (hf : ReactionFrame s u) : AnswerRan c s (doneSettled u) := .carriedOut hs h hf.replies

end

/-- One REPLY queued by a node in service with room for it. -/
theorem moves_queueReply (s : State) (r : Reply) (hs : inService s = true) (hf : replyFree s = true) : Moves c s (queueReply s r) := by
  refine moves_updBus s _ ⟨.inl le_rfl, .inr ⟨hs, ?_⟩, .inl rfl⟩
  have room : s.bus.replies.length < Config.replySize := by simpa [replyFree] using hf
  rw [List.length_append]
  exact room

theorem queueReply_runsClear (r : Reply) (h : RunsClear s) : RunsClear (queueReply s r) := runsClear_congr rfl rfl h

theorem replyFree_congr (h : t.bus.replies = s.bus.replies) : replyFree t = replyFree s := by unfold replyFree; rw [h]

/-- Request intake once for every request (R190). -/
theorem ranTo_request {f : State → Answer} (hd : Header) (kind : Byte) (h : inService s = true → AnswerRan c s (f s)) :
    RanTo c s (request hd kind f s) := by
  refine ranTo_next (.ite (fun hh => ?_) fun _ => .same)
  have hs := inService_of_heardOwn hh
  refine .ite (fun _ => .ite (fun hf => ?carried) fun _ => .same) fun _ => .ite (fun hf => ?stranger) fun _ => .same
  case stranger => exact ⟨(moves_queueReply s _ hs hf).acts, .replied _⟩
  case carried =>
    have a := h hs
    have queued (r : Reply) : Acts c s (queueReply (f s).state r) :=
      a.acts.trans (moves_queueReply _ r a.serving ((replyFree_congr a.replies).trans hf)).acts
    refine ⟨queued _, ?_⟩
    dsimp only
    obtain e | ⟨u, e⟩ | ⟨hq, hk⟩ := a.ends
    · rw [e]; exact .replied _
    · rw [e]; exact .answered u _
    · exact .calm _ (.inl hq) fun k => queueReply_runsClear _ (hk k)

theorem moves_admitPack (b : BayIdx) (r : PackRecord) (th : Thresholds) (hc : ∃ h bay id cls cells e, c = .admitPack h bay id cls cells e)
    (free : recordFree s = true) (fresh : ∀ id, r.id = some id → recordOfId s id = none) (hb : r.bay = some b)
    (loaded : s.bays[b].state = .loaded) : Moves c s (admitPack s b r th) := by
  have entered : Moves c s (addRecord s r) :=
    (Move.enters s r free fresh fun d hd => (Option.some.inj (hb.symm.trans hd) : b = d) ▸ by rw [loaded]; nofun).moves
  refine ((entered.trans (moves_updCounters _ _ ?_)).trans (moves_updMeas _ b _)).trans (moves_updBay _ b _)
  exact ⟨.inr hc, .inl rfl, .inl rfl, .inl rfl, .inl rfl, .inl rfl⟩

theorem admitAnswer_ran (bay : Byte) (id : PackId) (cls cells : Byte) (edecl : Option (BitVec 24)) (hs : inService s = true)
    (hc : ∃ h bay id cls cells e, c = .admitPack h bay id cls cells e) : AnswerRan c s (admitAnswer bay id cls cells edecl s) := by
  unfold admitAnswer
  split
  · exact .refused hs _
  · refine .ite (fun _ => .refused hs _) fun _ => .ite (fun _ => .refused hs _) fun hl => .ite (fun _ => .refused hs _) fun hid =>
      .ite (fun _ => .refused hs _) fun hf => .ite (fun _ => .refused hs _) fun _ => ?_
    refine .settled hs (moves_admitPack _ _ _ hc (by simpa using hf) ?_ rfl (not_not.1 hl)) rfl
    intro i hi
    obtain rfl : id = i := Option.some.inj hi
    simpa using hid

theorem startAnswer_ran (bay : Byte) (hs : inService s = true) : AnswerRan c s (startAnswer bay s) := by
  unfold startAnswer
  split
  · exact .refused hs _
  · exact .ite (fun _ => .ite (fun _ => .reacted hs (moves_enterConnecting s _) (frame_enterConnecting s _)) fun _ => .refused hs _)
      fun _ => .refused hs _

theorem rejectAnswer_ran (bay : Byte) (hs : inService s = true) : AnswerRan c s (rejectAnswer bay s) := by
  unfold rejectAnswer
  split
  · exact .refused hs _
  · split
    · exact .refused hs _
    · exact .refused hs _
    · exact .nothing hs rfl
    all_goals exact .reacted hs (moves_enterQuarantine s _ _) (frame_enterQuarantine s _ _)

theorem moves_countCleared (s : State) (hc : (∃ h bay, c = .clearBay h bay) ∨ ∃ h, c = .clearChute h) : Moves c s (countCleared s) :=
  moves_updCounters s _ (by exact ⟨.inl rfl, .inl rfl, .inl rfl, .inl rfl, .inr hc, .inl rfl⟩)

theorem moves_clearBay {b : BayIdx} {r : PackRecord} (hc : ∃ h bay, c = .clearBay h bay) (hr : recordOfBay s b = some r)
    (hb : s.bays[b].state = .quarantine) : Moves c s (clearBay s b) := by
  have taken : Unslotted (countEnergyOfBay s b) r :=
    unslotted_of_atBay (s := countEnergyOfBay s b) hr (by rw [show (countEnergyOfBay s b).bays = s.bays from rfl, hb]; nofun)
  exact (((moves_countEnergyOfBay s b).trans (Move.removes (countEnergyOfBay s b) _ r hr taken).moves).trans
    (moves_countCleared _ (.inl hc))).trans (moves_emptyBay _ b)

theorem clearBayAnswer_ran (bay : Byte) (hs : inService s = true) (hc : ∃ h bay, c = .clearBay h bay) :
    AnswerRan c s (clearBayAnswer bay s) := by
  unfold clearBayAnswer
  split
  · exact .refused hs _
  · split
    · exact .refused hs _
    · exact .ite (fun h => .settled hs (moves_clearBay hc ‹_› h.1) rfl) fun _ => .refused hs _

theorem clearChuteAnswer_ran (hs : inService s = true) (hc : ∃ h, c = .clearChute h) : AnswerRan c s (clearChuteAnswer s) := by
  unfold clearChuteAnswer
  split
  · exact .refused hs _
  · rename_i r hr
    have stage : r.stage = .unidentified := by simpa [isUnidentified] using List.find?_some hr
    have taken : Unslotted s r := ⟨.inr (.inr (.inl stage)), fun h => by rw [stage] at h; cases h⟩
    exact .settled hs ((Move.removes s _ r hr taken).moves.trans (moves_countCleared _ (.inr hc))) rfl

theorem resolveLostAnswer_ran (id : PackId) (hs : inService s = true) (hc : ∃ h id, c = .resolveLost h id) :
    AnswerRan c s (resolveLostAnswer id s) := by
  unfold resolveLostAnswer
  split
  · exact .refused hs _
  · rename_i r hr
    refine .ite (fun stage => .carriedOut hs ?_ rfl) fun _ => .refused hs _
    have taken : Unslotted s r := ⟨.inr (.inl stage), fun h => by rw [stage] at h; cases h⟩
    exact (Move.removes s (hasId id) r hr taken).moves.trans
      (moves_updCounters _ _ (by exact ⟨.inl rfl, .inl rfl, .inl rfl, .inl rfl, .inl rfl, .inr hc⟩))

theorem zoneStartAnswer_ran (hs : inService s = true) : AnswerRan c s (zoneStartAnswer s) :=
  .ite (fun h => .ite (fun _ => .reacted hs (moves_enterPurging hs (by rw [h.2]; nofun) (by rw [h.2]; nofun)) (frame_enterPurging s))
    fun _ => .refused hs _) fun _ => .refused hs _

theorem zoneStopAnswer_ran (hs : inService s = true) : AnswerRan c s (zoneStopAnswer s) := by
  refine .ite (fun _ => ?_) fun _ => .refused hs _
  have stopped (hl : s.zone.state ≠ .lockout) (hf : s.zone.state ≠ .fire) : AnswerRan c s
      (if s.zone.queue = [] ∧ claimCount s = 0 then doneSettled (enterAir s) else refuse s .queue) :=
    .ite (fun _ => .reacted hs (moves_enterAir hs hl fun h => absurd h hf) (frame_enterAir s)) fun _ => .refused hs _
  split
  · exact .nothing hs rfl
  iterate 4 exact stopped (by simp only [*]; nofun) (by simp only [*]; nofun)
  all_goals exact .refused hs _

theorem runAnswer_ran (hs : inService s = true) : AnswerRan c s (runAnswer s) := by
  refine .ite (fun _ => ?_) fun _ => .refused hs _
  split
  · exact .ite (fun _ => .reacted hs (moves_enterRunning hs (by simp only [*]; nofun) (by simp only [*]; nofun)) (frame_enterRunning s))
      fun _ => .refused hs _
  · exact .nothing hs rfl
  all_goals exact .refused hs _

theorem haltAnswer_ran (hs : inService s = true) : AnswerRan c s (haltAnswer s) := by
  refine .ite (fun _ => ?_) fun _ => .refused hs _
  split
  · exact .reacted hs (moves_enterReady hs (by simp only [*]; nofun) (by simp only [*]; nofun)) (frame_enterReady s)
  · exact .nothing hs rfl
  all_goals exact .refused hs _

theorem raised_updRow_of_eq (s : State) (r q : Row) (f : RowState → RowState) (h : ∀ x, (f x).raised = x.raised) :
    raised (updRow s r f) q = raised s q := by
  unfold raised
  by_cases e : q = r
  · subst e; rw [rowState_updRow_same, h]
  · rw [rowState_updRow_of_ne _ _ e]

/-- The zone stays clear where neither its state nor any row's being raised changes. -/
theorem runsClear_of_raised (hz : t.zone.state = s.zone.state) (hr : ∀ r, raised t r = raised s r) (h : RunsClear s) : RunsClear t := by
  intro k
  have clear := h (hz ▸ k)
  simpa only [chamberTripped, fireRaised, hr] using clear

/-- Acknowledging rows one after another. -/
theorem foldl_acked (l : List Row) (s : State) :
    (l.foldl (fun u r => updRow u r fun x => { x with acked := true }) s).zone = s.zone ∧
      (l.foldl (fun u r => updRow u r fun x => { x with acked := true }) s).bus = s.bus ∧
      ∀ q, raised (l.foldl (fun u r => updRow u r fun x => { x with acked := true }) s) q = raised s q := by
  induction l generalizing s with
  | nil => simp
  | cons r l ih =>
    obtain ⟨hz, hb, hr⟩ := ih (updRow s r fun x => { x with acked := true })
    exact ⟨hz, hb, fun q => (hr q).trans (raised_updRow_of_eq _ _ _ _ fun _ => rfl)⟩

theorem ackAnswer_ran (scope : Byte) (hs : inService s = true) (hq : setsOffNothing c = true) : AnswerRan c s (ackAnswer scope s) := by
  unfold ackAnswer
  split
  · exact .refused hs _
  · rename_i k _
    obtain ⟨hz, hb, hr⟩ := foldl_acked (ackRows s k) s
    have moves := moves_foldl (c := c) (ackRows s k) (f := fun u r => updRow u r fun x => { x with acked := true })
      (fun u r _ => moves_updRow u r _ (fun _ => rfl) fun _ => rfl) s
    exact ⟨moves.acts, moves.serving hs, by dsimp only; rw [hb], .inr (.inr ⟨hq, runsClear_of_raised (by dsimp only; rw [hz]) hr⟩)⟩

theorem lowerRow_bus (s : State) (r : Row) : (lowerRow s r).bus = s.bus := by
  unfold lowerRow clearRemote
  cases r <;> rfl

theorem resetRows_bus (s : State) : (resetRows s).bus = s.bus := by
  unfold resetRows
  generalize allRows.filter (resettable s) = l
  induction l generalizing s with
  | nil => rfl
  | cons r l ih => exact (ih (lowerRow s r)).trans (lowerRow_bus s r)

theorem resetAnswer_ran (hs : inService s = true) (hc : ∃ h, c = .reset h) : AnswerRan c s (resetAnswer s) :=
  .settled (u := resetRows s) hs (moves_foldl _ (fun u r _ => (Move.lowers u r (.inr hc)).moves) s) (by rw [resetRows_bus])

theorem maintOnAnswer_ran (hd : Header) (hs : inService s = true) : AnswerRan (.maintOn hd) s (maintOnAnswer s) :=
  ⟨(Act.maintains s .maintenance hs (.inl ⟨hd, rfl, rfl⟩)).acts, inService_setMode s (.inr rfl), rfl,
    .inr (.inr ⟨rfl, runsClear_congr rfl rfl⟩)⟩

theorem maintOffAnswer_ran (hd : Header) (hs : inService s = true) : AnswerRan (.maintOff hd) s (maintOffAnswer s) := by
  refine .ite (fun _ => ?_) fun _ => .nothing hs rfl
  have back := inService_setMode s (m := .operating) (.inl rfl)
  have a : AnswerRan (.maintOff hd) (setMode s .operating) (doneSettled (endInhibits (setMode s .operating))) :=
    .carriedOut back (moves_endInhibits _) rfl
  exact ⟨(Act.maintains s .operating hs (.inr ⟨hd, rfl, rfl⟩)).acts.trans a.acts, a.serving, a.replies,
    .inr (.inl ⟨endInhibits (setMode s .operating), by unfold doneSettled done; dsimp only⟩)⟩

theorem inhibitAnswer_ran (row : Byte) (seconds : BitVec 16) (hs : inService s = true) : AnswerRan c s (inhibitAnswer row seconds s) := by
  refine .ite (fun _ => .refused hs _) fun _ => ?_
  split
  · exact .refused hs _
  · exact .ite (fun _ => .refused hs _) fun _ => .ite (fun _ => .refused hs _) fun _ => .ite (fun _ => .refused hs _) fun _ =>
      .settled hs (moves_updRow s _ _ (fun _ => rfl) fun _ => rfl) rfl

theorem queryPackIdAnswer_ran (id : PackId) (hs : inService s = true) : AnswerRan c s (queryPackIdAnswer id s) := by
  unfold queryPackIdAnswer
  split <;> exact .nothing hs rfl

theorem queryPackBayAnswer_ran (bay : Byte) (hs : inService s = true) : AnswerRan c s (queryPackBayAnswer bay s) := by
  unfold queryPackBayAnswer
  split <;> exact .nothing hs rfl

/-! ### Dwell timers -/

theorem timersSound_timers (ts : Vector Timer 16) (h : TimersSound s)
    (hts : ∀ d : Fin 16, TimerSound (timerDef s d.val) s.timers[d] → TimerSound (timerDef s d.val) ts[d]) :
    TimersSound { s with timers := ts } := ⟨h.1, h.2.1, fun d => hts d (h.2.2 d)⟩

theorem stepTimer_sound {k : TimerDef} {x : Timer} (hx : x.state = .timing) (h : TimerSound (some k) x) :
    TimerSound (some k) (stepTimer k.preset x) := by
  obtain ⟨hle, hdone, -⟩ := h
  have ne : x.elapsed ≠ k.preset := fun e => by have := hdone.2 e; rw [hx] at this; cases this
  refine ⟨?_, ?_, ?_⟩ <;> unfold stepTimer <;> dsimp only
  · omega
  · split <;> simp [*]
  · split <;> nofun

theorem setBack_sound (s : State) (p : Fin 12) (age : Nat) {k : TimerDef} {x : Timer} (h : TimerSound (some k) x) :
    TimerSound (some k) (setBack s p age k x) := by
  unfold setBack
  split
  · rename_i hc
    have ahead : age < x.elapsed := by
      simp only [Bool.and_eq_true, decide_eq_true_eq] at hc
      exact hc.2
    have := h.1
    exact ⟨by dsimp only; omega, ⟨nofun, fun e => by dsimp only at e; omega⟩, nofun⟩
  · exact h

theorem acts_setBackTimers (s : State) (p : Fin 12) (age : Nat) : Acts c s (setBackTimers s p age) := by
  refine (Act.dwells s _ fun h => timersSound_timers _ h fun d hd => ?_).acts
  simp only [Fin.getElem_fin, Vector.getElem_ofFn]
  split
  · rename_i k hk
    rw [hk] at hd ⊢
    exact setBack_sound s p age hd
  · exact hd

/-! ### Commands beside the requests -/

theorem endLoad_ran (memory : List Byte) (fields : ImageFields) (hc : c = .loadEnd memory fields) (hm : s.loader.mode = .starting) :
    Ran c s (endLoad s memory fields) := by
  have out : inService s = false := by simp [inService, hm]
  have faulted (k : Fin 12) : Ran c s (enterConfigFault s k fields) :=
    ⟨(Act.faults s memory fields k hc hm).acts, .calm _ (.inr out) (runsClear_congr rfl rfl)⟩
  unfold endLoad
  dsimp only
  split
  · rename_i i hi
    refine .ite (fun hv => ⟨?_, .settled _⟩) fun _ => faulted _
    exact (Act.serves s memory fields i hc hm hi hv).acts.trans (Act.settles _ rfl).acts
  · exact faulted _

theorem moves_expireOverdue (s : State) (id : PackId) : Moves c s (expireOverdue s id) :=
  .ite (fun _ => (moves_expireTransit s id).trans (moves_expireReservation _ id)) fun _ => .refl

theorem moves_expireAll (s : State) (hs : inService s = true) : Moves c s (expireAll s) := by
  have records : Moves c s ((s.packs.records.filterMap PackRecord.id).foldl expireOverdue s) :=
    moves_foldl _ (fun u id _ => moves_expireOverdue u id) s
  have fed (v : State) (hv : inService v = true) : Moves c v (if due v v.zone.feedUntil then expireFeed v else v) :=
    .ite (fun _ => moves_expireFeed v hv) fun _ => .refl
  have both := records.trans (fed _ (records.serving hs))
  exact both.trans (.ite (fun _ => moves_expireFlood _ (both.serving hs)) fun _ => .refl)

theorem markFirstOut_zone (before s : State) : (markFirstOut before s).zone = s.zone := by
  unfold markFirstOut
  split
  · rfl
  · split <;> rfl

theorem markFirstOut_runsClear (before : State) (h : RunsClear s) : RunsClear (markFirstOut before s) :=
  runsClear_of_raised (by rw [markFirstOut_zone]) (fun r => raised_markFirstOut before s r) h

theorem leaveWarmReset_ran (r : Restarting) (hc : c = .warmResetEnd) (hm : s.loader.mode = .warmReset) : Ran c s (leaveWarmReset s r) := by
  have back : inService (backInService s r) = true := rfl
  have expired := moves_expireAll (c := c) (backInService s r) back
  rw [leaveWarmReset_eq]
  refine ⟨?_, .calm _ (.inr (by simp [inService, hm])) fun _ => markFirstOut_runsClear s (settle_runsClear _)⟩
  exact (((Act.returns s r hc hm).acts.trans expired.acts).trans (Act.settles _ (expired.serving back)).acts).trans
    (moves_markFirstOut s _).acts

theorem enterWarmReset_not_running (s : State) (a : Addr) (q : Byte) : (enterWarmReset s a q).zone.state ≠ .running := by
  have warm : (warmZone s).zone.state ≠ .running := by
    unfold warmZone
    split <;> rename_i hz
    iterate 5 nofun
    all_goals rw [hz]; nofun
  exact warm

theorem takeRestart_ran (hd : Header) (hs : inService s = true) : Ran (.restart hd) s (takeRestart s hd) :=
  .ite (fun _ => .ite (fun _ => ⟨(Act.resets s hd rfl hs).acts,
    .calm _ (.inl rfl) fun _ => runsClear_of_not_running (enterWarmReset_not_running s _ _)⟩) fun _ => .same) fun _ =>
    .ite (fun hf => ⟨(moves_queueReply s _ hs hf).acts, .replied _⟩) fun _ => .same

theorem execPairArrival_ran (b : BayIdx) (v : BitVec 16) (vValid : Bool) (i : BitVec 16) (iValid : Bool) :
    RanTo c s (execPairArrival b v vValid i iValid s) := by
  refine ranTo_whenServing fun hs => .ite (fun _ => .settled hs ?_) fun _ => .same
  exact (moves_pairTaken s b _ _).trans (.ite (fun _ => moves_lateReboundOrHold _ b) fun _ => .refl)

theorem moves_measureTb (s : State) (b : BayIdx) (tb : Reading) : Moves c s (measureTb s b tb) := by
  unfold measureTb
  exact moves_updMeas s b _

theorem moves_measureZone (s : State) (z : ZoneConfig) (o2a o2b h1 h2 : Reading) : Moves c s (measureZone s z o2a o2b h1 h2) := by
  unfold measureZone
  exact moves_updZMeas s _

theorem execZoneArrival_ran (o2a o2b h1 h2 : Reading) : RanTo c s (execZoneArrival o2a o2b h1 h2 s) := by
  refine ranTo_whenServing fun hs => ?_
  split
  · exact .same
  · rename_i z _
    have measured : Moves c s (measureZone s z o2a o2b h1 h2) := moves_measureZone s z _ _ _ _
    have crossed := measured.trans (moves_topUpCrossing s _ (measured.serving hs))
    exact .settled hs (crossed.trans (moves_settleLostOrAlarm _ (crossed.serving hs)))

/-- One crossing of a discrete arrival with its reactions. -/
theorem acts_inputEvent (hc : ∃ levels, c = .discreteArrival levels) (e : InputEvent) (hs : inService u = true) :
    Acts c u (settle (takeInputEvent u e)) := by
  have taken := moves_takeInputEvent (c := c) hc u hs e
  exact taken.acts.trans (Act.settles _ (taken.serving hs)).acts

theorem inService_inputEvent (e : InputEvent) (hs : inService u = true) : inService (settle (takeInputEvent u e)) = true :=
  inService_of_loader ((settle_loader _).trans (takeInputEvent_loader u e)) hs

/-- The crossings of a discrete arrival one after another, each with its reactions. -/
theorem acts_inputEvents (hc : ∃ levels, c = .discreteArrival levels) (events : List InputEvent) (hs : inService u = true) :
    Acts c u (events.foldl (fun v e => settle (takeInputEvent v e)) u) := by
  induction events generalizing u with
  | nil => exact .refl
  | cons e events ih =>
    rw [List.foldl_cons]
    exact (acts_inputEvent hc e hs).trans (ih (inService_inputEvent e hs))

/-- Folding over events ends with the reactions of the last, or has not begun. -/
theorem foldl_settle_ends (events : List InputEvent) (u : State) :
    events.foldl (fun v e => settle (takeInputEvent v e)) u = u ∨
      ∃ v, events.foldl (fun v e => settle (takeInputEvent v e)) u = settle v := by
  induction events using List.reverseRecOn with
  | nil => exact .inl rfl
  | append_singleton events e _ =>
    rw [List.foldl_append, List.foldl_cons, List.foldl_nil]
    exact .inr ⟨_, rfl⟩

theorem execDiscreteArrival_ran (levels : List (DiscreteInput × Bool)) :
    RanTo (.discreteArrival levels) s (execDiscreteArrival levels s) := by
  refine ranTo_whenServing fun hs => ?_
  have pushed : Moves (.discreteArrival levels) s (levels.foldl pushInput s) := moves_foldl _ (fun u x _ => moves_pushInput u x) s
  have taken := acts_inputEvents (c := .discreteArrival levels) ⟨levels, rfl⟩
    (levels.filterMap fun x => inputEvent s (levels.foldl pushInput s) x.1) (pushed.serving hs)
  refine ⟨(pushed.acts.trans taken).trans (moves_markFirstOut s _).acts, .arrived levels _ rfl ?_⟩
  exact foldl_settle_ends _ _

theorem execSecondBoundary_ran (hq : setsOffNothing c = true) : RanTo c s (execSecondBoundary s) := by
  refine ranTo_whenServing fun hs => .ite (fun _ => ?_) fun _ => .same
  have counted (n : Nat) : Moves c s { s with secondsDue := n } :=
    (Move.senses s n s.meas s.zmeas s.peers s.startUntil s.freeIndex).moves
  exact .ite (fun _ => .settled hs ((counted _).trans (moves_updZMeas _ _))) fun _ => .calm (.inl hq) (counted _)

theorem execClosingWindowExpiry_ran (b : BayIdx) : RanTo c s (execClosingWindowExpiry b s) := by
  refine ranTo_whenServing fun hs => ?_
  split
  · exact ranTo_settleIf (fun _ => hs) fun _ => moves_updBay s b _ id
  all_goals exact .same

theorem execOpeningWindowExpiry_ran (b : BayIdx) : RanTo c s (execOpeningWindowExpiry b s) := by
  refine ranTo_whenServing fun hs => ?_
  split
  · exact ranTo_settleIf (fun _ => hs) fun _ => moves_updBay s b _ id
  all_goals exact .same

theorem execDwellTimerStep_ran (d : Fin 16) : RanTo c s (execDwellTimerStep d s) := by
  refine ranTo_whenServing fun hs => ?_
  split
  · exact .same
  · rename_i k hk
    refine .ite (fun ht => ?_) fun _ => .same
    have timing : s.timers[d].state = .timing := by
      simp only [Bool.and_eq_true, decide_eq_true_eq] at ht
      exact ht.1
    suffices stepped : Act c s (updTimer s d (stepTimer k.preset)) from
      ⟨stepped.acts.trans (Act.settles (updTimer s d (stepTimer k.preset)) hs).acts, .settled _⟩
    refine Act.dwells s _ fun h => timersSound_timers _ h fun e he => ?_
    by_cases hde : d = e
    · subst hde
      rw [hk] at he ⊢
      simpa using stepTimer_sound timing he
    · have ne : d.val ≠ e.val := fun h => hde (Fin.ext h)
      simpa [ne] using he

theorem takeStatus_ran (i : Fin 12) (hd : Header) (p : StatusPayload) (hs : inService s = true) : Ran c s (takeStatus s i hd p) := by
  refine .ite (fun _ => ?_) fun _ => .same
  have taken : Moves c s (updPeer s i (acceptStatus s hd.seq p)) := moves_updPeer s i _
  dsimp only
  refine .ite (fun _ => ⟨?_, .settled _⟩) fun _ => .settled hs taken
  have timed := taken.acts.trans (acts_setBackTimers _ i p.zoneAge.toNat)
  have reported := moves_reportedTrips (c := c) (setBackTimers (updPeer s i (acceptStatus s hd.seq p)) i p.zoneAge.toNat) hd.sender p
  exact (timed.trans reported.acts).trans (Act.settles _ (reported.serving hs)).acts

theorem execStatus_ran (hd : Header) (p : StatusPayload) : RanTo c s (execStatus hd p s) := by
  refine ranTo_next (.ite (fun hh => ?_) fun _ => .same)
  split
  · exact takeStatus_ran _ hd p (inService_of_heardBroadcast hh)
  · exact .same

theorem takeTrip_ran (sender : Addr) (k : TripClass) (x : Sections) (hs : inService s = true) : Ran c s (takeTrip s sender k x) :=
  .ite (fun _ => .same) fun _ => .settled hs ((moves_tripCondition s _).trans (moves_reportTrip _ k x sender))

theorem takeOffer_ran (sender : Addr) (o : OfferPayload) (hs : inService s = true) : Ran c s (takeOffer s sender o) := by
  refine .ite (fun _ => .ite (fun _ => .settled hs (moves_queueHandover s _ _)) fun _ => ?_) fun _ => .same
  split
  · exact .settled hs (moves_reserve s sender o ‹_›)
  · exact .settled hs (moves_queueHandover s _ _)

theorem sender_of_heardOwn {hd : Header} (h : heardOwn s hd = true) : hd.sender ≠ s.loader.address := by
  simp only [heardOwn, headerHeard, Bool.and_eq_true, decide_eq_true_eq] at h
  exact h.1.2.1.2.2.2

theorem execStatusDue_ran (hq : setsOffNothing c = true) : RanTo c s (execStatusDue s) := by
  refine ranTo_next ?_
  split
  · exact .ite (fun _ => .calm (.inl hq) (moves_bus s _)) fun _ => .same
  · exact .same

theorem execTransmitAttempt_ran (hq : setsOffNothing c = true) : RanTo c s (execTransmitAttempt s) := by
  refine ranTo_next ?_
  split
  · exact .calm (.inl hq) (moves_bus s _)
  · exact .same

theorem execCollision_ran (hq : setsOffNothing c = true) : RanTo c s (execCollision s) := by
  refine ranTo_next ?_
  split
  · exact .calm (.inl hq) ((moves_bus s _).trans (Move.senses _ s.secondsDue s.meas s.zmeas s.peers s.startUntil _).moves)
  · exact .same

theorem moves_offerLeaves (s : State) (o : OfferPayload) : Moves c s (offerLeaves s o) := by
  unfold offerLeaves
  split
  · refine moves_updHandover s _ _ fun x => ?_
    split <;> rfl
  · exact .refl

theorem moves_sourceLeaves (s : State) (a : Attempt) : Moves c s (sourceLeaves s a) := by
  have shortened (f : Bus → Bus) (hh : (f s.bus).handover.length ≤ s.bus.handover.length)
      (hr : (f s.bus).replies.length ≤ s.bus.replies.length) (hq : (f s.bus).sequence = s.bus.sequence) : Moves c s (updBus s f) :=
    moves_updBus s f ⟨.inl hh, .inl hr, .inl hq⟩
  have first : (s.bus.handover.drop 1).length ≤ s.bus.handover.length := by simp
  unfold sourceLeaves
  split
  · exact shortened _ le_rfl le_rfl rfl
  · exact shortened _ le_rfl le_rfl rfl
  · exact shortened _ le_rfl le_rfl rfl
  · refine .ite (fun _ => ?_) fun _ => .refl
    have left := shortened (fun u => { u with handover := u.handover.drop 1 }) first le_rfl rfl
    unfold handoverLeaves
    dsimp only
    split
    · exact left.trans (moves_offerLeaves _ _)
    all_goals exact left
  · exact shortened _ le_rfl (by simp) rfl

theorem moves_frameLeft (s : State) (a : Attempt) : Moves .frameLeaves s (frameLeft s a) := by
  have left : Moves .frameLeaves s (updBus s fun u => { u with attempt := none, sequence := u.sequence + 1 }) :=
    moves_updBus s _ (by exact ⟨.inl le_rfl, .inl le_rfl, .inr rfl⟩)
  exact left.trans (moves_sourceLeaves _ a)

theorem frameLeft_zone_causes (s : State) (a : Attempt) : (frameLeft s a).zone = s.zone ∧ (frameLeft s a).causes = s.causes := by
  unfold frameLeft sourceLeaves
  split
  iterate 3 exact ⟨rfl, rfl⟩
  · split
    · unfold handoverLeaves
      dsimp only
      split
      · unfold offerLeaves
        split <;> exact ⟨rfl, rfl⟩
      all_goals exact ⟨rfl, rfl⟩
    · exact ⟨rfl, rfl⟩
  · exact ⟨rfl, rfl⟩

theorem execFrameLeaves_ran : RanTo .frameLeaves s (execFrameLeaves s) := by
  refine ranTo_next ?_
  split
  · rename_i a _
    obtain ⟨hz, hk⟩ := frameLeft_zone_causes s a
    exact .ite (fun hs => .settled hs (moves_frameLeft s a)) fun hs =>
      .calm (.inr (by simpa using hs)) (moves_frameLeft s a) (by rw [hz]) hk
  · exact .same

/-! ### Every command -/

/-- What carries out a request other than a RESTART. -/
def requestAnswer (c : Instr) (s : State) : Answer :=
  match c with
  | .requestMalformed _ _ => refuse s .range
  | .admitPack _ bay id cls cells edecl => admitAnswer bay id cls cells edecl s
  | .start _ bay => startAnswer bay s
  | .reject _ bay => rejectAnswer bay s
  | .clearBay _ bay => clearBayAnswer bay s
  | .clearChute _ => clearChuteAnswer s
  | .resolveLost _ id => resolveLostAnswer id s
  | .zoneStart _ => zoneStartAnswer s
  | .zoneStop _ => zoneStopAnswer s
  | .run _ => runAnswer s
  | .halt _ => haltAnswer s
  | .ack _ scope => ackAnswer scope s
  | .reset _ => resetAnswer s
  | .maintOn _ => maintOnAnswer s
  | .maintOff _ => maintOffAnswer s
  | .inhibit _ row seconds => inhibitAnswer row seconds s
  | .queryPackId _ id => queryPackIdAnswer id s
  | .queryPackBay _ bay => queryPackBayAnswer bay s
  | .queryPackPosition _ position => queryPackPositionAnswer position s
  | .queryCauses _ position => queryCausesAnswer position s
  | .queryLog _ entry => queryLogAnswer entry s
  | .queryCounts _ => queryCountsAnswer s
  | _ => done s

/-- A request is its answer taken through request intake. -/
theorem exec_request {hd : Header} {kind : Byte} (hh : headerOf c = some hd) (hk : requestKind c = some kind) (hr : c ≠ .restart hd)
    (s : State) : exec c s = request hd kind (requestAnswer c) s := by
  cases c with
  | restart _ => cases hh; exact absurd rfl hr
  | requestMalformed _ _ | admitPack _ _ _ _ _ _ | start _ _ | reject _ _ | clearBay _ _ | clearChute _ | resolveLost _ _ | zoneStart _
  | zoneStop _ | run _ | halt _ | ack _ _ | reset _ | maintOn _ | maintOff _ | inhibit _ _ _ | queryPackId _ _ | queryPackBay _ _
  | queryPackPosition _ _ | queryCauses _ _ | queryLog _ _ | queryCounts _ => cases hh; cases hk; rfl
  | _ => cases hk

/-- Every request but a RESTART is carried out by acts, with the REPLY FIFO left alone. -/
theorem requestAnswer_ran (hs : inService s = true) (hk : requestKind c ≠ none) (hr : ∀ hd, c ≠ .restart hd) :
    AnswerRan c s (requestAnswer c s) := by
  cases c with
  | requestMalformed hd kind => exact .refused hs _
  | admitPack hd bay id cls cells edecl => exact admitAnswer_ran bay id cls cells edecl hs ⟨hd, bay, id, cls, cells, edecl, rfl⟩
  | start hd bay => exact startAnswer_ran bay hs
  | reject hd bay => exact rejectAnswer_ran bay hs
  | clearBay hd bay => exact clearBayAnswer_ran bay hs ⟨hd, bay, rfl⟩
  | clearChute hd => exact clearChuteAnswer_ran hs ⟨hd, rfl⟩
  | resolveLost hd id => exact resolveLostAnswer_ran id hs ⟨hd, id, rfl⟩
  | zoneStart hd => exact zoneStartAnswer_ran hs
  | zoneStop hd => exact zoneStopAnswer_ran hs
  | run hd => exact runAnswer_ran hs
  | halt hd => exact haltAnswer_ran hs
  | ack hd scope => exact ackAnswer_ran scope hs rfl
  | reset hd => exact resetAnswer_ran hs ⟨hd, rfl⟩
  | maintOn hd => exact maintOnAnswer_ran hd hs
  | maintOff hd => exact maintOffAnswer_ran hd hs
  | inhibit hd row seconds => exact inhibitAnswer_ran row seconds hs
  | queryPackId hd id => exact queryPackIdAnswer_ran id hs
  | queryPackBay hd bay => exact queryPackBayAnswer_ran bay hs
  | queryPackPosition hd position => exact .ite (fun _ => .nothing hs rfl) fun _ => .refused hs _
  | queryCauses hd position => exact .ite (fun _ => .nothing hs rfl) fun _ => .refused hs _
  | queryLog hd entry => exact .nothing hs rfl
  | queryCounts hd => exact .nothing hs rfl
  | restart hd => exact absurd rfl (hr hd)
  | _ => exact absurd rfl hk

/-- Every command but a COLD_RESET is made of acts, and ends with the reactions of its event but where it sets off nothing. -/
theorem exec_ran (c : Instr) (s : State) (hc : ∀ pins, c ≠ .coldReset pins) : RanTo c s (exec c s) := by
  have settling {p : Prop} [Decidable p] {u : State} (h : inService s = true → p → Moves c s u) (hs : inService s = true) :
      Ran c s (if p then settle u else s) := ranTo_settleIf (fun _ => hs) (h hs)
  have frame {p : Prop} [Decidable p] {u : State} (hs : p → inService s = true) (h : Moves c s u) :
      RanTo c s (.next (if p then settle u else s)) := ranTo_next (ranTo_settleIf hs fun _ => h)
  cases c with
  | coldReset pins => exact absurd rfl (hc pins)
  | loadEnd memory fields => exact ranTo_next (.ite (endLoad_ran memory fields rfl) fun _ => .same)
  | pairArrival b v vValid i iValid => exact execPairArrival_ran b v vValid i iValid
  | tbArrival b tb => exact ranTo_whenServing (settling fun _ _ => moves_measureTb s b tb)
  | zoneArrival o2a o2b h1 h2 => exact execZoneArrival_ran o2a o2b h1 h2
  | discreteArrival levels => exact execDiscreteArrival_ran levels
  | spArrival pulses => exact ranTo_whenServing (settling fun _ _ => moves_updZMeas s _)
  | secondBoundary => exact execSecondBoundary_ran rfl
  | closingWindowExpiry b => exact execClosingWindowExpiry_ran b
  | openingWindowExpiry b => exact execOpeningWindowExpiry_ran b
  | restTimerExpiry b => exact ranTo_whenServing (settling fun _ _ => moves_judgeRest s b)
  | offerBackoffExpiry b => exact ranTo_whenServing (settling fun _ _ => moves_updBay s b _ id)
  | rgPulseEnd b => exact ranTo_whenServing fun _ => .ite (fun _ => .calm (.inl rfl) (moves_updBay s b _ id)) fun _ => .same
  | fpPulseEnd =>
    exact ranTo_whenServing fun hs =>
      .ite (fun _ => .calm (.inl rfl) (moves_updZone s _ hs rfl rfl (by exact .inr rfl))) fun _ => .same
  | offerQueueExpiry b => exact ranTo_whenServing (settling fun _ _ => moves_expireOffer s b)
  | answerWindowExpiry b => exact ranTo_whenServing (settling fun _ _ => moves_expireOffer s b)
  | transitDeadlineExpiry id => exact ranTo_whenServing (settling fun _ _ => moves_expireTransit s id)
  | reservationExpiry id => exact ranTo_whenServing (settling fun _ _ => moves_expireReservation s id)
  | feedDeadlineExpiry => exact ranTo_whenServing (settling fun hs _ => moves_expireFeed s hs)
  | purgeTimerExpiry =>
    refine ranTo_whenServing (settling fun hs h => ?_)
    have purging : s.zone.state = .purging := by simp only [Bool.and_eq_true, decide_eq_true_eq] at h; exact h.1
    exact (moves_enterAir hs (by rw [purging]; nofun) (by rw [purging]; nofun)).trans (moves_pulseRow _ .at2 rfl)
  | settleTimerExpiry =>
    refine ranTo_whenServing (settling fun hs h => ?_)
    have inert : s.zone.state = .inert := by simp only [Bool.and_eq_true, decide_eq_true_eq] at h; exact h.1
    exact moves_enterReady hs (by rw [inert]; nofun) (by rw [inert]; nofun)
  | floodTimerExpiry => exact ranTo_whenServing (settling fun hs _ => moves_expireFlood s hs)
  | persistenceTimerExpiry n => exact ranTo_whenServing (settling fun _ _ => moves_updDetector s n _)
  | reformationTimerExpiry => exact ranTo_whenServing (settling fun _ _ => (Move.fires s _ (.inr rfl)).moves)
  | dwellTimerStep d => exact execDwellTimerStep_ran d
  | inhibitExpiry r => exact ranTo_whenServing (settling fun _ _ => moves_updRow s r _ (fun _ => rfl) fun _ => rfl)
  | stalenessDeadlineExpiry p => exact ranTo_whenServing (settling fun _ _ => moves_updPeer s p _)
  | startWindowExpiry =>
    exact ranTo_whenServing (settling fun _ _ => (Move.senses s s.secondsDue s.meas s.zmeas s.peers _ s.freeIndex).moves)
  | statusDue => exact execStatusDue_ran rfl
  | transmitBlockedWatch => exact ranTo_whenServing (settling fun _ _ => moves_bus s _)
  | transmitAttempt => exact execTransmitAttempt_ran rfl
  | collision => exact execCollision_ran rfl
  | backoffExpiry => exact ranTo_next (.ite (fun _ => .calm (.inl rfl) (moves_bus s _)) fun _ => .same)
  | frameLeaves => exact execFrameLeaves_ran
  | frameDiscarded raw => exact ranTo_next .same
  | status hd p => exact execStatus_ran hd p
  | trip hd k x => exact ranTo_next (.ite (fun hh => takeTrip_ran _ k x (inService_of_heardBroadcast hh)) fun _ => .same)
  | offer hd o => exact ranTo_next (.ite (fun hh => takeOffer_ran _ o (inService_of_heardOwn hh)) fun _ => .same)
  | accept hd id =>
    refine ranTo_next (ranTo_settleIf inService_of_heardOwn_and fun hh => moves_takeAccept s _ id ?_)
    exact sender_of_heardOwn (by simp only [Bool.and_eq_true] at hh; exact hh.1)
  | decline hd id reason => exact frame inService_of_heardOwn_and (moves_takeDecline s _ id reason)
  | withdraw hd id => exact frame inService_of_heardOwn_and (moves_takeWithdraw s _ id)
  | landed hd id => exact frame inService_of_heardOwn_and (moves_takeLanded s id ⟨hd, id, rfl⟩)
  | replyReceived hd payload => exact ranTo_next .same
  | restart hd => exact ranTo_next (.ite (fun hh => takeRestart_ran hd (inService_of_heardOwn hh)) fun _ => .same)
  | warmResetEnd =>
    refine ranTo_next ?_
    split
    · exact .ite (fun _ => leaveWarmReset_ran _ rfl ‹_›) fun _ => .same
    · exact .same
  | _ => exact ranTo_request _ _ fun hs => requestAnswer_ran hs (by exact nofun) nofun

end Sys2Proof.Machine
end

section
/-! SUPPORT. Invariants of steps from their acts: what every act keeps, the zone's outputs, LOCKOUT and a kept FIRE; settles O41, O45, O46,
O48, O54 and O55. -/

namespace Sys2Proof.Machine

variable {c : Instr} {s t u : State} {P : State → Prop}

/-! ### Invariants along acts -/

theorem Acts.keep (hact : ∀ u v, Act c u v → P u → P v) (h : Acts c s t) (hs : P s) : P t := by
  induction h with
  | refl => exact hs
  | tail _ hk ih => exact hact _ _ hk ih

/-- What every move and the dwell timers keep, the reactions of an event keep. -/
theorem settle_keeps (hmove : ∀ u v, Move c u v → P u → P v) (htimers : ∀ u ts, P u → P { u with timers := ts })
    (hs : inService s = true) (h : P s) : P (settle s) := by
  have chain : Relation.ReflTransGen (Reaction c) s (settle s) := reaction_settle hs
  generalize settle s = t at chain ⊢
  induction chain with
  | refl => exact h
  | tail _ hk ih =>
    obtain hm | ⟨ts, rfl⟩ := hk
    · exact hmove _ _ hm ih
    · exact htimers _ ts ih

/-- The node as a COLD_RESET leaves it (R195). -/
def coldState (pins : BitVec 6) (s : State) : State :=
  { State.reset with loader := { loaderReset with address := pins.setWidth 8 }, freeIndex := s.freeIndex, pending := s.pending }

theorem exec_coldReset (pins : BitVec 6) (s : State) : exec (.coldReset pins) s = .next (coldState pins s) := rfl

/-- A property of the reset state and kept by each act, by the passing of time and by taking a command is kept by every step. -/
theorem step_keeps (hact : ∀ c u v, Act c u v → P u → P v) (hcold : ∀ pins u, P (coldState pins u)) (htick : ∀ u, P u → P (tick u))
    (hpop : ∀ u l, P u → P { u with pending := l }) (h : P s) (hstep : step s = .next t) : P t := by
  unfold step at hstep
  split at hstep
  · cases hstep
    exact htick s h
  · rename_i c rest _
    by_cases hc : ∃ pins, c = .coldReset pins
    · obtain ⟨pins, rfl⟩ := hc
      cases hstep
      exact hcold pins _
    · exact (exec_ran c _ (fun pins e => hc ⟨pins, e⟩) t hstep).acts.keep (hact c) (hpop s rest h)

theorem tick_eq (s : State) : ∃ n, tick s = { s with now := s.now + 1, secondsDue := n } := by
  unfold tick
  dsimp only
  split
  · exact ⟨_, rfl⟩
  · exact ⟨_, rfl⟩

/-! ### What single moves leave alone -/

theorem raiseRow_eq (s : State) (r : Row) : raiseRow s r = { s with causes := (raiseRow s r).causes, bus := (raiseRow s r).bus } := by
  unfold raiseRow tripOnRaise
  cases r <;> rfl

theorem lowerRow_eq (s : State) (r : Row) : lowerRow s r = { s with causes := (lowerRow s r).causes } := by
  unfold lowerRow clearRemote
  cases r <;> rfl

theorem setRemote_eq (s : State) (k : TripClass) (x : Remote) : setRemote s k x = { s with causes := (setRemote s k x).causes } := rfl

/-- The zone keeps state and pulse, or makes one of its own changes in service. -/
theorem Move.zone_cases (h : Move c s t) :
    (t.zone.state = s.zone.state ∧ t.zone.fpUntil = s.zone.fpUntil) ∨ ZoneMove s t.zone := by
  cases h with
  | zone z h => exact .inr h
  | raises r => rw [raiseRow_zone]; exact .inl ⟨rfl, rfl⟩
  | lowers r _ => rw [lowerRow_zone]; exact .inl ⟨rfl, rfl⟩
  | _ => exact .inl ⟨rfl, rfl⟩

theorem Move.zoneKept (h : Move c s t) (hc : c ≠ .reformationTimerExpiry) : t.fire.zoneKept = s.fire.zoneKept := by
  cases h with
  | fires f h => exact h.resolve_right hc
  | raises r => rw [raiseRow_eq]
  | lowers r _ => rw [lowerRow_eq]
  | _ => rfl

theorem Move.clock (h : Move c s t) : t.now = s.now ∧ t.pending = s.pending := by
  cases h with
  | raises r => rw [raiseRow_eq]; exact ⟨rfl, rfl⟩
  | lowers r _ => rw [lowerRow_eq]; exact ⟨rfl, rfl⟩
  | _ => exact ⟨rfl, rfl⟩

theorem Move.sequence (h : Move c s t) (hc : c ≠ .frameLeaves) : t.bus.sequence = s.bus.sequence := by
  cases h with
  | bus u h => exact h.sequence.resolve_right hc
  | raises r => exact (frame_raiseRow _ r).sequence
  | lowers r _ => rw [lowerRow_eq]
  | _ => rfl

theorem Move.timers (h : Move c s t) : t.timers = s.timers := by
  cases h with
  | raises r => exact raiseRow_timers _ r
  | lowers r _ => exact lowerRow_timers _ r
  | _ => rfl

/-! ### Time, queue and sequence (11.5, R181) -/

theorem warmZone_eq (s : State) : warmZone s = { s with zone := (warmZone s).zone } := by
  unfold warmZone
  split <;> rfl

theorem Act.clock (h : Act c s t) : t.now = s.now ∧ t.pending = s.pending := by
  cases h with
  | move h => exact h.clock
  | settles _ => exact ⟨(frame_settle s).now, (frame_settle s).pending⟩
  | resets => unfold enterWarmReset; rw [warmZone_eq]; exact ⟨rfl, rfl⟩
  | _ => exact ⟨rfl, rfl⟩

theorem Act.sequence (h : Act c s t) (hc : c ≠ .frameLeaves) : t.bus.sequence = s.bus.sequence := by
  cases h with
  | move h => exact h.sequence hc
  | settles _ => exact (frame_settle s).sequence
  | _ => rfl

theorem exec_answers (c : Instr) (s : State) : ∃ t, exec c s = .next t := by
  cases c <;> exact ⟨_, rfl⟩

theorem exec_clock (hc : ∀ pins, c ≠ .coldReset pins) (h : exec c s = .next t) : t.now = s.now ∧ t.pending = s.pending :=
  (exec_ran c s hc t h).acts.keep (P := fun u => u.now = s.now ∧ u.pending = s.pending)
    (fun _ _ k hu => ⟨k.clock.1.trans hu.1, k.clock.2.trans hu.2⟩) ⟨rfl, rfl⟩

theorem exec_sequence (hc : ∀ pins, c ≠ .coldReset pins) (hf : c ≠ .frameLeaves) (h : exec c s = .next t) :
    t.bus.sequence = s.bus.sequence :=
  (exec_ran c s hc t h).acts.keep (P := fun u => u.bus.sequence = s.bus.sequence) (fun _ _ k hu => (k.sequence hf).trans hu) rfl

theorem frameLeft_sequence (s : State) (a : Attempt) : (frameLeft s a).bus.sequence = s.bus.sequence + 1 := by
  unfold frameLeft sourceLeaves
  split
  iterate 3 rfl
  · split
    · rw [handoverLeaves_bus]; rfl
    · rfl
  · rfl

theorem frameLeaves_sequence {a : Attempt} (ha : s.bus.attempt = some a) (h : exec .frameLeaves s = .next t) :
    t.bus.sequence = s.bus.sequence + 1 := by
  have e : exec .frameLeaves s = .next (if inService s then settle (frameLeft s a) else frameLeft s a) := by
    simp [exec, execFrameLeaves, ha]
  rw [e] at h
  cases h
  split
  · exact (frame_settle _).sequence.trans (frameLeft_sequence s a)
  · exact frameLeft_sequence s a

/-! ### Mode and image (R203) -/

/-- What a command other than a COLD_RESET can make of the loader. -/
def LoaderAfter (c : Instr) (a l : Loader) : Prop :=
  l = a ∨
  (∃ m f, c = .loadEnd m f ∧ a.mode = .starting ∧ (l.mode = .operating ∨ l.mode = .configFault) ∧ l.address = a.address) ∨
  (∃ h, c = .maintOn h ∧ (a.mode = .operating ∨ a.mode = .maintenance) ∧ l = { a with mode := .maintenance }) ∨
  (∃ h, c = .maintOff h ∧ (a.mode = .operating ∨ a.mode = .maintenance) ∧ l = { a with mode := .operating }) ∨
  (∃ h, c = .restart h ∧ (a.mode = .operating ∨ a.mode = .maintenance) ∧ ∃ r, l = { a with mode := .warmReset, restart := some r }) ∨
  (c = .warmResetEnd ∧ a.mode = .warmReset ∧ l = { a with mode := .operating, restart := none })

theorem modes_of_inService (h : inService s = true) : s.loader.mode = .operating ∨ s.loader.mode = .maintenance := by
  simpa [inService] using h

/-- One more act of the same command leaves the loader within what the command can make of it. -/
theorem Act.loaderAfter {a : Loader} (h : Act c s t) (hs : LoaderAfter c a s.loader) : LoaderAfter c a t.loader := by
  cases h with
  | move h => rwa [h.loader]
  | settles _ => rwa [settle_loader]
  | dwells ts _ => exact hs
  | serves memory fields i hc hm _ _ =>
    subst hc
    obtain h | ⟨m, f, -, -, h, -⟩ | ⟨_, h, -⟩ | ⟨_, h, -⟩ | ⟨_, h, -⟩ | ⟨h, -⟩ := hs
    · rw [h] at hm
      exact .inr (.inl ⟨_, _, rfl, hm, .inl rfl, by rw [← h]; rfl⟩)
    · rw [hm] at h; simp at h
    all_goals cases h
  | faults memory fields k hc hm =>
    subst hc
    obtain h | ⟨m, f, -, -, h, -⟩ | ⟨_, h, -⟩ | ⟨_, h, -⟩ | ⟨_, h, -⟩ | ⟨h, -⟩ := hs
    · rw [h] at hm
      exact .inr (.inl ⟨_, _, rfl, hm, .inr rfl, by rw [← h]; rfl⟩)
    · rw [hm] at h; simp at h
    all_goals cases h
  | maintains m hserve hc =>
    have mode := modes_of_inService hserve
    obtain ⟨hd, rfl, rfl⟩ | ⟨hd, rfl, rfl⟩ := hc
    · refine .inr (.inr (.inl ⟨hd, rfl, ?_⟩))
      obtain h | ⟨_, _, h, -⟩ | ⟨_, -, h, h'⟩ | ⟨_, h, -⟩ | ⟨_, h, -⟩ | ⟨h, -⟩ := hs
      · rw [h] at mode
        exact ⟨mode, by rw [← h]; rfl⟩
      · cases h
      · exact ⟨h, by unfold setMode; rw [updLoader_loader, h']⟩
      all_goals cases h
    · refine .inr (.inr (.inr (.inl ⟨hd, rfl, ?_⟩)))
      obtain h | ⟨_, _, h, -⟩ | ⟨_, h, -⟩ | ⟨_, -, h, h'⟩ | ⟨_, h, -⟩ | ⟨h, -⟩ := hs
      · rw [h] at mode
        exact ⟨mode, by rw [← h]; rfl⟩
      · cases h
      · cases h
      · exact ⟨h, by unfold setMode; rw [updLoader_loader, h']⟩
      all_goals cases h
  | resets hd hc hserve =>
    subst hc
    have mode := modes_of_inService hserve
    obtain h | ⟨_, _, h, -⟩ | ⟨_, h, -⟩ | ⟨_, h, -⟩ | ⟨_, -, -, r, h⟩ | ⟨h, -⟩ := hs
    · rw [h] at mode
      exact .inr (.inr (.inr (.inr (.inl ⟨hd, rfl, mode, _, by rw [← h]; rfl⟩))))
    · cases h
    · cases h
    · cases h
    · rw [h] at mode; simp at mode
    · cases h
  | returns r hc hm =>
    subst hc
    obtain h | ⟨_, _, h, -⟩ | ⟨_, h, -⟩ | ⟨_, h, -⟩ | ⟨_, h, -⟩ | ⟨-, -, h⟩ := hs
    · rw [h] at hm
      exact .inr (.inr (.inr (.inr (.inr ⟨rfl, hm, by rw [← h]; rfl⟩))))
    iterate 4 cases h
    · rw [h] at hm; cases hm

theorem exec_loaderAfter (hc : ∀ pins, c ≠ .coldReset pins) (h : exec c s = .next t) : LoaderAfter c s.loader t.loader :=
  (exec_ran c s hc t h).acts.keep (P := fun u => LoaderAfter c s.loader u.loader) (fun _ _ k hu => k.loaderAfter hu) (.inl rfl)

/-! ### LOCKOUT, a kept FIRE, and outputs (R91, R104, R122) -/

theorem enterWarmReset_zone (s : State) (a : Addr) (q : Byte) : (enterWarmReset s a q).zone = (warmZone s).zone := rfl

theorem warmZone_of_kept (h : s.zone.state = .air ∨ s.zone.state = .fire ∨ s.zone.state = .lockout) : warmZone s = s := by
  unfold warmZone
  rcases h with h | h | h <;> rw [h]

theorem Act.lockedOut (h : Act c s t) (hs : LockedOut s) : LockedOut t := by
  cases h with
  | move h =>
    obtain ⟨hz, hp⟩ | h := h.zone_cases
    · exact ⟨hz.trans hs.1, hp.trans hs.2⟩
    · exact ⟨(h.locked hs.1).1, (h.locked hs.1).2 hs.2⟩
  | settles _ => exact settle_lockedOut hs
  | resets hd _ _ =>
    exact lockedOut_congr (by rw [enterWarmReset_zone, warmZone_of_kept (.inr (.inr hs.1))]) hs
  | _ => exact hs

theorem Act.fireKept (h : Act c s t) (hc : c ≠ .reformationTimerExpiry) (hs : FireKept s) : FireKept t := by
  cases h with
  | move h =>
    refine ⟨(h.zoneKept hc).trans hs.1, ?_⟩
    obtain ⟨hz, -⟩ | h := h.zone_cases
    · exact hz.trans hs.2
    · exact (h.kept hs.2).resolve_right (by simp [hs.1])
  | settles _ => exact settle_fireKept hs
  | resets hd _ _ =>
    refine ⟨decide_eq_true hs.2, ?_⟩
    rw [enterWarmReset_zone, warmZone_of_kept (.inr (.inl hs.2))]
    exact hs.2
  | _ => exact hs

/-- An expiry of the re-formation timer before its interval has run changes nothing (log 2). -/
theorem reformation_early (he : ∀ u, s.fire.reformUntil = some u → s.now < u) : exec .reformationTimerExpiry s = .next s := by
  have early : due s s.fire.reformUntil = false := by
    unfold due
    cases h : s.fire.reformUntil with
    | none => rfl
    | some u => simpa using he u h
  simp [exec, execReformationTimerExpiry, whenServing, early]

theorem exec_fireKept (h : FireKept s) (hc : ∀ pins, c ≠ .coldReset pins)
    (he : c = .reformationTimerExpiry → ∀ u, s.fire.reformUntil = some u → s.now < u) (hx : exec c s = .next t) : FireKept t := by
  by_cases hr : c = .reformationTimerExpiry
  · subst hr
    rw [reformation_early (he rfl)] at hx
    cases hx
    exact h
  · exact (exec_ran c s hc t hx).acts.keep (fun _ _ k => k.fireKept hr) h

theorem step_idle (hp : s.pending = []) : step s = .next (tick s) := by
  unfold step; rw [hp]

theorem tick_zone_fire (s : State) : (tick s).zone = s.zone ∧ (tick s).fire = s.fire := by
  obtain ⟨n, e⟩ := tick_eq s
  rw [e]
  exact ⟨rfl, rfl⟩

theorem zoneOutputsOff_of_lockedOut (h : LockedOut s) : ZoneOutputsOff s := by
  simp [ZoneOutputsOff, outSR, outFP, outPV, outFV, h.1, h.2]

/-- A zone in AIR or LOCKOUT whose pulse runs in RUNNING alone has its outputs off. -/
theorem zoneOutputsOff_of_idle (hp : s.zone.fpUntil ≠ none → s.zone.state = .running) (h : s.zone.state = .air ∨ s.zone.state = .lockout) :
    ZoneOutputsOff s := by
  have pulse : s.zone.fpUntil = none := by
    by_contra k
    rcases h with h | h <;> simp [h] at hp <;> exact k hp
  rcases h with h | h <;> simp [ZoneOutputsOff, outSR, outFP, outPV, outFV, h, pulse]

theorem mode_out_of_service (h : inService s = false) (hw : s.loader.mode ≠ .warmReset) :
    s.loader.mode = .starting ∨ s.loader.mode = .configFault := by
  unfold inService at h
  cases hm : s.loader.mode <;> simp [hm] at h hw ⊢

theorem outputsSound_zone {m : Mode} {z : Zone} (hm : t.loader.mode = m) (hz : t.zone = z) (hp : z.fpUntil ≠ none → z.state = .running)
    (hmode : m = .operating ∨ m = .maintenance) : OutputsSound t := by
  refine ⟨by rw [hz]; exact hp, ?_, ?_⟩ <;> rw [hm] <;> rcases hmode with rfl | rfl <;> simp

theorem Move.outputsSound (h : Move c s t) (hs : OutputsSound s) : OutputsSound t := by
  obtain ⟨hp, hf, hw⟩ := hs
  obtain ⟨hz, hfp⟩ | hm := h.zone_cases
  · refine ⟨?_, ?_, ?_⟩
    · rwa [hz, hfp]
    · rwa [hz, h.loader]
    · rwa [hz, h.loader]
  · refine outputsSound_zone (congrArg Loader.mode h.loader) rfl (fun k => ?_) (modes_of_inService hm.serving)
    obtain hr | ⟨hz, hk⟩ := hm.pulse k
    · exact hr
    · exact hz.trans (hp hk)

theorem Act.outputsSound (h : Act c s t) (hs : OutputsSound s) : OutputsSound t := by
  cases h with
  | move h => exact h.outputsSound hs
  | settles hserve => exact settle_keeps (fun _ _ (k : Move c _ _) => k.outputsSound) (fun _ _ h => h) hserve hs
  | dwells ts _ => exact hs
  | serves memory fields i _ _ _ _ => exact outputsSound_zone rfl rfl hs.1 (.inl rfl)
  | faults memory fields k _ hm => exact ⟨hs.1, fun _ => hs.2.1 (.inl hm), nofun⟩
  | maintains m _ hc =>
    exact outputsSound_zone rfl rfl hs.1 (by obtain ⟨_, _, h⟩ | ⟨_, _, h⟩ := hc; exacts [.inr h, .inl h])
  | resets hd _ _ =>
    refine ⟨?_, nofun, fun _ => ?_⟩ <;> rw [enterWarmReset_zone] <;> unfold warmZone <;> split <;> rename_i hz
    iterate 5 exact fun k => absurd rfl k
    iterate 3 exact hs.1
    iterate 5 exact .inl rfl
    · exact .inl hz
    · exact .inr (.inl hz)
    · exact .inr (.inr hz)
  | returns r _ _ => exact outputsSound_zone rfl rfl hs.1 (.inl rfl)

theorem coldState_outputsSound (pins : BitVec 6) (s : State) : OutputsSound (coldState pins s) :=
  ⟨fun k => absurd rfl k, fun _ => rfl, nofun⟩

theorem step_outputsSound (h : OutputsSound s) (hstep : step s = .next t) : OutputsSound t :=
  step_keeps (fun _ _ _ k => k.outputsSound) coldState_outputsSound
    (fun u hu => by obtain ⟨n, e⟩ := tick_eq u; rw [e]; exact hu) (fun _ _ hu => hu) h hstep

/-! ### A RUNNING zone stays clear (R98) -/

/-- Taking levels into the discrete inputs leaves zone and rows. -/
theorem pushInputs_zone_causes (levels : List (DiscreteInput × Bool)) (s : State) :
    (levels.foldl pushInput s).zone = s.zone ∧ (levels.foldl pushInput s).causes = s.causes := by
  induction levels generalizing s with
  | nil => exact ⟨rfl, rfl⟩
  | cons x levels ih =>
    obtain ⟨hz, hk⟩ := ih (pushInput s x)
    exact ⟨hz.trans (pushInput_zone s x), hk.trans (pushInput_causes s x)⟩

theorem pushed_or_settled_runsClear {levels : List (DiscreteInput × Bool)} (hs : RunsClear s)
    (hu : u = levels.foldl pushInput s ∨ ∃ v, u = settle v) : RunsClear u := by
  rcases hu with e | ⟨v, e⟩ <;> rw [e]
  · obtain ⟨hz, hk⟩ := pushInputs_zone_causes levels s
    exact runsClear_congr (by rw [hz]) hk hs
  · exact settle_runsClear v

theorem Ends.runsClear (h : Ends c s t) (hs : RunsClear s) : RunsClear t := by
  cases h with
  | same => exact hs
  | settled u => exact settle_runsClear u
  | answered u r => exact queueReply_runsClear r (settle_runsClear u)
  | replied r => exact queueReply_runsClear r hs
  | arrived levels u _ hu => exact markFirstOut_runsClear s (pushed_or_settled_runsClear hs hu)
  | calm _ _ h => exact h hs

theorem step_runsClear (h : RunsClear s) (hstep : step s = .next t) : RunsClear t := by
  unfold step at hstep
  split at hstep
  · cases hstep
    obtain ⟨n, e⟩ := tick_eq s
    rw [e]
    exact h
  · rename_i c rest _
    have popped : RunsClear { s with pending := rest } := h
    by_cases hc : ∃ pins, c = .coldReset pins
    · obtain ⟨pins, rfl⟩ := hc
      cases hstep
      exact runsClear_of_not_running nofun
    · exact (exec_ran c _ (fun pins e => hc ⟨pins, e⟩) t hstep).ends.runsClear popped

end Sys2Proof.Machine

open Sys2Proof Sys2Proof.Machine

/-- Settles O45: every arm of exec is a next state, every act keeps clock and queue, and an empty queue ticks. -/
theorem everyCommandAnswers : Obligations.EveryCommandAnswers := by
  refine ⟨fun c s => ?_, fun s hp => ?_⟩
  · obtain ⟨t, ht⟩ := exec_answers c s
    refine ⟨t, ht, ?_⟩
    by_cases hc : ∃ pins, c = .coldReset pins
    · obtain ⟨pins, rfl⟩ := hc
      cases ht
      exact ⟨rfl, fun h => absurd rfl (h pins)⟩
    · obtain ⟨hnow, hpending⟩ := exec_clock (fun pins e => hc ⟨pins, e⟩) ht
      exact ⟨hpending, fun _ => hnow⟩
  · rw [step_idle hp]
    unfold tick nodeTime nodeCount
    simp only [Config.count]
    split <;> simp_all

/-- Settles O46: what each command can make of the loader, read off its acts. -/
theorem modeAndImageChange : Obligations.ModeAndImageChange := by
  refine ⟨fun c s t h hm => ?_, fun c s t h hc => ?_⟩
  · by_cases hc : ∃ pins, c = .coldReset pins
    · obtain ⟨pins, rfl⟩ := hc
      cases h
      exact .inl ⟨pins, rfl, rfl⟩
    · refine .inr ?_
      obtain e | ⟨m, f, e, hs, ht, -⟩ | ⟨hd, e, hs, ht⟩ | ⟨hd, e, hs, ht⟩ | ⟨hd, e, hs, r, ht⟩ | ⟨e, hs, ht⟩ :=
        exec_loaderAfter (fun pins e => hc ⟨pins, e⟩) h
      · exact absurd (congrArg Loader.mode e) hm
      · exact .inl ⟨m, f, e, hs, ht⟩
      · rw [ht] at hm ⊢
        exact .inr (.inl ⟨hd, e, hs.resolve_right fun k => hm k.symm, rfl⟩)
      · rw [ht] at hm ⊢
        exact .inr (.inr (.inl ⟨hd, e, hs.resolve_left fun k => hm k.symm, rfl⟩))
      · rw [ht]
        exact .inr (.inr (.inr (.inl ⟨hd, e, by simpa [inService] using hs, rfl⟩)))
      · rw [ht]
        exact .inr (.inr (.inr (.inr ⟨e, hs, rfl⟩)))
  · obtain e | ⟨m, f, e, -, -, ha⟩ | ⟨_, -, -, e⟩ | ⟨_, -, -, e⟩ | ⟨_, -, -, _, e⟩ | ⟨-, -, e⟩ := exec_loaderAfter hc h
    case inr.inl => exact ⟨ha, fun hl => absurd e (hl m f)⟩
    all_goals rw [e]; exact ⟨rfl, fun _ => ⟨rfl, rfl, rfl, rfl⟩⟩

/-- Settles O48: the acts of every other command keep the sequence, and a frame that leaves adds one before its reactions. -/
theorem sequenceAdvancesAtLeaving : Obligations.SequenceAdvancesAtLeaving := by
  refine fun c s t h => ⟨?_, ?_, fun hf hc => exec_sequence hc hf h, ?_⟩
  · rintro rfl ha
    obtain ⟨a, ha⟩ := Option.ne_none_iff_exists'.1 ha
    exact frameLeaves_sequence ha h
  · rintro rfl ha
    have e : exec .frameLeaves s = .next s := by simp [exec, execFrameLeaves, ha]
    rw [e] at h
    cases h
    rfl
  · rintro pins rfl
    cases h
    rfl

/-- Settles O54: LOCKOUT and a kept FIRE along the acts of every command, with the early expiry of the re-formation timer apart, and the
four refusals of a locked-out zone. -/
theorem lockoutAndKeptFireStand : Obligations.LockoutAndKeptFireStand := by
  have locked {t : State} (h : LockedOut t) : LockedOut t ∧ ZoneOutputsOff t := ⟨h, zoneOutputsOff_of_lockedOut h⟩
  refine ⟨fun c s t h hc he hx => exec_fireKept h hc he hx, fun s t h hp hstep => ?_, fun c s t h hc hx => locked ?_,
    fun s t h hp hstep => locked ?_, fun hd s h hr => ?_⟩
  · rw [step_idle hp] at hstep
    cases hstep
    exact fireKept_congr (tick_zone_fire s).2 (by rw [(tick_zone_fire s).1]) h
  · exact (exec_ran c s hc t hx).acts.keep (fun _ _ k => k.lockedOut) h
  · rw [step_idle hp] at hstep
    cases hstep
    exact lockedOut_congr (tick_zone_fire s).1 h
  · refine ⟨request_refuses hr ?_, request_refuses hr ?_, request_refuses hr ?_, request_refuses hr ?_⟩
    · simp [zoneStartAnswer, h.1]
    · simp [zoneStopAnswer, h.1]
    · simp [runAnswer, h.1]
    · simp [haltAnswer, h.1]

/-- Settles O55: a command ends with the reactions of its event, which leave a RUNNING zone clear, or changes neither zone nor rows. -/
theorem runningZoneStaysClear : Obligations.RunningZoneStaysClear := fun _ _ => step_runsClear

/-- Settles O41: the outputs by their definitions, out of service by the invariant, and the invariant along the acts of a step. -/
theorem outputsFollowStates : Obligations.OutputsFollowStates := by
  refine ⟨fun s => ⟨fun b => ⟨?_, ?_⟩, fun hz => ?_, fun hz => ?_⟩, fun s hs hout => ⟨fun b => ?_, fun hm => ?_, fun hm hf => ?_, fun hm hf hz => ?_⟩,
    fun _ _ => step_outputsSound⟩
  · simp [outKC, coilOn]
  · simp [outRG, Option.isSome_iff_ne_none]
  · simp [ZoneOutputsOff, outSR, outFP, outPV, outFV, hz]
  · refine ⟨by simp [outSR, hz], by simp [outFV, hz], by simp [outFP, hz, Option.isSome_iff_ne_none], ?_, ?_, ?_⟩
    · rintro (h | h) <;> simp [outPV, h]
    · rintro (h | h | h) <;> simp [outPV, hz, h]
    · rintro (h | h | h) <;> simp [outPV, hz, h]
  · simp [outKC, outRG, hout]
  · exact zoneOutputsOff_of_idle hs.1 (mode_out_of_service hout hm |> hs.2.1 |> .inl)
  · exact zoneOutputsOff_of_idle hs.1 ((hs.2.2 hm).imp_right fun h => h.resolve_left hf)
  · have pulse : s.zone.fpUntil = none := by
      by_contra k
      exact absurd (hs.1 k) (by rw [hf]; decide)
    simp [outSR, outFP, outPV, outFV, hf, hz, pulse]

end

section
/-! SUPPORT. Counters, rows and dwell timers along the acts of a step; settles O47, O52 and O58. -/

namespace Sys2Proof.Machine

variable {c : Instr} {s t u : State}

/-! ### Counters (R61) -/

theorem Counted.trans {a b z : Counters} (h : Counted c a b) (k : Counted c b z) : Counted c a z := by
  have chain {n m p : BitVec 32} {q : Prop} (h1 : m = n ∨ q) (h2 : p = m ∨ q) : p = n ∨ q := by
    rcases h2 with rfl | h2
    · exact h1
    · exact .inr h2
  have chain3 {n m p : BitVec 32} {q r : Prop} (h1 : m = n ∨ q ∨ r) (h2 : p = m ∨ q ∨ r) : p = n ∨ q ∨ r := chain h1 h2
  exact ⟨chain h.admitted k.admitted, chain h.handedIn k.handedIn, chain h.handedOut k.handedOut, chain h.shredded k.shredded,
    chain3 h.cleared k.cleared, chain h.lost k.lost⟩

theorem counted_of_eq {a z : Counters} (h : z = a) : Counted c a z := by
  rw [h]
  exact counted_refl a

theorem Move.counted (h : Move c s t) : Counted c s.packs.counters t.packs.counters := by
  cases h with
  | tallies p _ k => exact k
  | raises r => rw [raiseRow_eq]; exact counted_refl _
  | lowers r _ => rw [lowerRow_eq]; exact counted_refl _
  | _ => exact counted_refl _

theorem Act.counted (h : Act c s t) : Counted c s.packs.counters t.packs.counters := by
  cases h with
  | move h => exact h.counted
  | settles _ => exact counted_of_eq (frame_settle s).counters
  | resets hd _ _ => unfold enterWarmReset; rw [warmZone_eq]; exact counted_refl _
  | _ => exact counted_refl _

theorem exec_counted (hc : ∀ pins, c ≠ .coldReset pins) (h : exec c s = .next t) : Counted c s.packs.counters t.packs.counters :=
  (exec_ran c s hc t h).acts.keep (P := fun u => Counted c s.packs.counters u.packs.counters) (fun _ _ k hu => hu.trans k.counted)
    (counted_refl _)

/-- A request leaves the counters, or as its answer leaves them. -/
theorem request_counters {hd : Header} {kind : Byte} {f : State → Answer} (h : request hd kind f s = .next t) :
    t.packs.counters = s.packs.counters ∨ t.packs.counters = (f s).state.packs.counters := by
  unfold request takeRequest at h
  cases h
  split
  · split
    · split
      · exact .inr rfl
      · exact .inl rfl
    · split
      · exact .inl rfl
      · exact .inl rfl
  · exact .inl rfl

theorem settle_counters (s : State) : (settle s).packs.counters = s.packs.counters := (frame_settle s).counters

/-- A figure of the counters stays from s to t, or moves by one. -/
def StaysOrSteps (g : Counters → BitVec 32) (s t : State) : Prop :=
  g t.packs.counters = g s.packs.counters ∨ g t.packs.counters = g s.packs.counters + 1

theorem staysOrSteps_settle {g : Counters → BitVec 32} (h : StaysOrSteps g s u) : StaysOrSteps g s (settle u) := by
  unfold StaysOrSteps
  rwa [settle_counters]

theorem request_staysOrSteps {g : Counters → BitVec 32} {hd : Header} {kind : Byte} {f : State → Answer}
    (hf : StaysOrSteps g s (f s).state) (h : request hd kind f s = .next t) : StaysOrSteps g s t := by
  rcases request_counters h with e | e
  · exact .inl (by rw [e])
  · unfold StaysOrSteps
    rwa [e]

theorem admitAnswer_admitted (bay : Byte) (id : PackId) (cls cells : Byte) (e : Option (BitVec 24)) (s : State) :
    StaysOrSteps Counters.admitted s (admitAnswer bay id cls cells e s).state := by
  unfold admitAnswer
  split
  · exact .inl rfl
  · iterate 4
      split
      · exact .inl rfl
    dsimp only
    split
    · exact .inl rfl
    · dsimp only
      exact staysOrSteps_settle (.inr rfl)

theorem clearBayAnswer_cleared (bay : Byte) (s : State) : StaysOrSteps Counters.cleared s (clearBayAnswer bay s).state := by
  unfold clearBayAnswer
  split
  · exact .inl rfl
  · split
    · exact .inl rfl
    · split
      · dsimp only
        refine staysOrSteps_settle (.inr ?_)
        unfold clearBay countEnergyOfBay
        rfl
      · exact .inl rfl

theorem clearChuteAnswer_cleared (s : State) : StaysOrSteps Counters.cleared s (clearChuteAnswer s).state := by
  unfold clearChuteAnswer
  split
  · exact .inl rfl
  · dsimp only
    exact staysOrSteps_settle (.inr rfl)

theorem resolveLostAnswer_lost (id : PackId) (s : State) : StaysOrSteps Counters.lost s (resolveLostAnswer id s).state := by
  unfold resolveLostAnswer
  split
  · exact .inl rfl
  · split
    · unfold doneSettled done
      dsimp only
      exact staysOrSteps_settle (.inr rfl)
    · exact .inl rfl

theorem takeLanded_handedOut (s : State) (id : PackId) : StaysOrSteps Counters.handedOut s (takeLanded s id) := by
  unfold takeLanded
  split
  · exact .inl rfl
  · split
    · dsimp only
      split <;> exact .inr rfl
    · exact .inr rfl
    iterate 5 exact .inl rfl

theorem exec_landed_handedOut {hd : Header} {id : PackId} (h : exec (.landed hd id) s = .next t) : StaysOrSteps Counters.handedOut s t := by
  cases h
  split
  · exact staysOrSteps_settle (takeLanded_handedOut s id)
  · exact .inl rfl

/-! ### Rows (R126, R127) -/

theorem raised_of_rowState {r : Row} (h : rowState t r = rowState s r) : raised t r = raised s r := by
  unfold raised
  rw [h]

theorem Move.raised_kept {r : Row} (h : Move c s t) (hl : latched r = true) (hr : raised s r = true) (hc : ∀ hd, c ≠ .reset hd) :
    raised t r = true := by
  cases h with
  | causes k h => exact (h.raised (rowIndex r)).trans hr
  | row q f up _ =>
    by_cases e : r = q
    · subst e
      unfold raised
      rw [rowState_updRow_same]
      exact up hl hr
    · exact (raised_of_rowState (rowState_updRow_of_ne s f e)).trans hr
  | raises q =>
    by_cases e : r = q
    · rw [e]
      exact raised_raiseRow s q
    · exact (raised_of_rowState (rowState_raiseRow_of_ne s e)).trans hr
  | lowers q h =>
    by_cases e : r = q
    · subst e
      obtain h | ⟨hd, h⟩ := h
      · rw [hl] at h; cases h
      · exact absurd h (hc hd)
    · exact (raised_of_rowState (rowState_lowerRow_of_ne s e)).trans hr
  | reports k x h => cases k <;> exact hr
  | _ => exact hr

/-- A warm reset keeps every row but for its inhibit (R148). -/
theorem rowState_enterWarmReset (s : State) (a : Addr) (q : Byte) (r : Row) :
    rowState (enterWarmReset s a q) r = { rowState s r with inhibit := none } := by
  have e : rowState (enterWarmReset s a q) r = rowState (endInhibits (warmZone s)) r := rfl
  rw [e, rowState_endInhibits, warmZone_eq]
  rfl

theorem Act.raised_kept {r : Row} (h : Act c s t) (hl : latched r = true) (hr : raised s r = true) (hc : ∀ hd, c ≠ .reset hd) :
    raised t r = true := by
  cases h with
  | move h => exact h.raised_kept hl hr hc
  | settles hs =>
    exact settle_keeps (P := fun u => raised u r = true) (fun _ _ (k : Move c _ _) hu => k.raised_kept hl hu hc) (fun _ _ hu => hu) hs hr
  | resets hd _ _ =>
    unfold raised
    rw [rowState_enterWarmReset]
    exact hr
  | _ => exact hr

theorem selfClearing_of_ne {q : Row} (hs : SelfClearingSound s) (other : ∀ r, r ≠ q → rowState t r = rowState s r)
    (own : latched q = false → (rowState t q).raised = (rowState t q).condition) : SelfClearingSound t := by
  intro r hl
  by_cases e : r = q
  · subst e
    exact own hl
  · unfold raised
    rw [other r e]
    exact hs r hl

theorem condition_raiseRow (s : State) (r : Row) : (rowState (raiseRow s r) r).condition = true := by
  unfold raiseRow
  rw [rowState_tripOnRaise, rowState_updRow_same]

theorem lowered_lowerRow (s : State) (r : Row) : (rowState (lowerRow s r) r).raised = (rowState (lowerRow s r) r).condition := by
  unfold lowerRow
  rw [rowState_clearRemote, rowState_updRow_same]

theorem Move.selfClearing (h : Move c s t) (hs : SelfClearingSound s) : SelfClearingSound t := by
  cases h with
  | causes k h => exact fun r hl => (h.raised (rowIndex r)).trans ((hs r hl).trans (h.condition (rowIndex r)).symm)
  | row q f _ clear =>
    refine selfClearing_of_ne hs (fun r e => rowState_updRow_of_ne s f e) fun hl => ?_
    rw [rowState_updRow_same]
    exact clear hl
  | raises q => exact selfClearing_of_ne hs (fun r e => rowState_raiseRow_of_ne s e) fun _ => (raised_raiseRow s q).trans (condition_raiseRow s q).symm
  | lowers q _ => exact selfClearing_of_ne hs (fun r e => rowState_lowerRow_of_ne s e) fun _ => lowered_lowerRow s q
  | reports k x h => cases k <;> exact hs
  | _ => exact hs

theorem Act.selfClearing (h : Act c s t) (hs : SelfClearingSound s) : SelfClearingSound t := by
  cases h with
  | move h => exact h.selfClearing hs
  | settles hserve => exact settle_keeps (fun _ _ (k : Move c _ _) => k.selfClearing) (fun _ _ h => h) hserve hs
  | resets hd _ _ =>
    intro r hl
    unfold raised
    rw [rowState_enterWarmReset]
    exact hs r hl
  | _ => exact hs

theorem coldState_selfClearing (pins : BitVec 6) (s : State) : SelfClearingSound (coldState pins s) := by
  intro r _
  simp [raised, rowState, coldState, State.reset, rowReset]

theorem step_selfClearing (h : SelfClearingSound s) (hstep : step s = .next t) : SelfClearingSound t :=
  step_keeps (fun _ _ _ k => k.selfClearing) coldState_selfClearing
    (fun u hu => by obtain ⟨n, e⟩ := tick_eq u; rw [e]; exact hu) (fun _ _ hu => hu) h hstep

/-! ### Dwell timers (R159, R161) -/

theorem timerSound_idle {d : Option TimerDef} {x : Timer} (hd : ∀ k, d = some k → 1 ≤ k.preset) (hx : x.state = .idle) (he : x.elapsed = 0) :
    TimerSound d x := by
  cases d with
  | none => exact ⟨hx, he⟩
  | some k =>
    have := hd k rfl
    refine ⟨by omega, ?_, fun _ => he⟩
    rw [hx, he]
    exact ⟨nofun, fun e => by omega⟩

theorem timerAfter_sound (s : State) (k : TimerDef) (input : Bool) {x : Timer} (hk : 1 ≤ k.preset) (hx : TimerSound (some k) x) :
    TimerSound (some k) (timerAfter s k input x) := by
  unfold timerAfter
  split
  · split
    · dsimp only
      generalize he : (if credited k then min k.preset (peerAge s k.input) else 0) = e
      have le : e ≤ k.preset := by
        subst he
        split <;> omega
      refine ⟨le, ?_, ?_⟩ <;> dsimp only <;> split
      · rename_i h; simp [h]
      · rename_i h; simp [h]
      · nofun
      · nofun
    · exact hx
  · exact timerSound_idle (fun _ e => by cases e; exact hk) rfl rfl

theorem timerDef_of_mem {defs : List TimerDef} {k : TimerDef} (h : (defs.map TimerDef.number).Nodup) (hk : k ∈ defs) :
    defs.find? (fun t => t.number == k.number) = some k := by
  induction defs with
  | nil => cases hk
  | cons x xs ih =>
    rw [List.map_cons, List.nodup_cons] at h
    rw [List.find?_cons]
    rcases List.mem_cons.1 hk with rfl | hk
    · simp
    · have ne : x.number ≠ k.number := fun e => h.1 (e ▸ List.mem_map_of_mem hk)
      simp [beq_eq_false_iff_ne.2 ne, ih h.2 hk]

/-- Every timer of a vector is sound under the node's definitions. -/
def VectorSound (s : State) (ts : Vector Timer 16) : Prop := ∀ d : Fin 16, TimerSound (timerDef s d.val) ts[d]

theorem timerPass_sound (s : State) {defs : List TimerDef} (hd : DefsSound (cfg s).timers) (hsub : ∀ k ∈ defs, k ∈ (cfg s).timers)
    {ts : Vector Timer 16} (h : VectorSound s ts) : VectorSound s (timerPass s defs ts) := by
  unfold timerPass
  induction defs generalizing ts with
  | nil => exact h
  | cons k ks ih =>
    refine ih (fun x hx => hsub x (.tail _ hx)) ?_
    have mem := hsub k (.head _)
    dsimp only
    split
    · rename_i hn
      have own := h ⟨k.number, hn⟩
      rw [show timerDef s (Fin.mk k.number hn).val = some k from timerDef_of_mem hd.1 mem] at own
      intro d
      by_cases e : k.number = d.val
      · have e' : d = ⟨k.number, hn⟩ := Fin.ext e.symm
        subst e'
        rw [show timerDef s (Fin.mk k.number hn).val = some k from timerDef_of_mem hd.1 mem]
        simp only [Fin.getElem_fin, Vector.getElem_set_self]
        exact timerAfter_sound s k _ (hd.2 k mem).2 own
      · simp only [Fin.getElem_fin, Vector.getElem_set_ne _ _ e]
        exact h d
    · exact h

theorem timersAfter_sound (s : State) (hd : DefsSound (cfg s).timers) {ts : Vector Timer 16} (h : VectorSound s ts) :
    VectorSound s (timersAfter s ts) := by
  unfold timersAfter
  generalize (cfg s).timers.length + 1 = n
  induction n generalizing ts with
  | zero => exact h
  | succ n ih => exact ih (timerPass_sound s hd (fun _ hk => hk) h)

theorem vectorSound_congr {ts : Vector Timer 16} (hl : t.loader = s.loader) (h : VectorSound s ts) : VectorSound t ts := by
  unfold VectorSound timerDef cfg at h ⊢
  rwa [hl]

theorem timersSound_congr (hl : t.loader = s.loader) (ht : t.timers = s.timers) (h : TimersSound s) : TimersSound t := by
  obtain ⟨h1, h2, h3⟩ := h
  refine ⟨by rwa [hl], by unfold cfg at h2 ⊢; rwa [hl], ?_⟩
  rw [ht]
  exact vectorSound_congr hl h3

theorem Moves.timers (h : Moves c s t) : t.timers = s.timers := by
  induction h with
  | refl => rfl
  | tail _ hk ih => exact hk.timers.trans ih

/-- A reaction leaves the dwell timers, or as they stand judged from those before the event. -/
theorem react_timers {before : Vector Timer 16} (hs : inService s = true) (h : react before s = some t) :
    t.timers = s.timers ∨ t.timers = timersAfter s before := by
  rcases react_cases h with h | h | h | ⟨b, h⟩ | h
  · exact .inl (moves_handConditions (c := .fpPulseEnd) hs h).timers
  · unfold timersReact at h
    dsimp only at h
    split at h <;> cases h
    exact .inr rfl
  · exact .inl (moves_zoneReact (c := .fpPulseEnd) hs h).timers
  · exact .inl (moves_bayReact (c := .fpPulseEnd) h).timers
  · exact .inl (moves_feedReact (c := .fpPulseEnd) hs h).timers

theorem settle_timersSound (hs : inService s = true) (h : TimersSound s) : TimersSound (settle s) := by
  refine (settle_induction (P := fun u => u.loader = s.loader ∧ TimersSound u) s
    ⟨(frame_obeyRows s).loader, timersSound_congr (frame_obeyRows s).loader (moves_obeyRows (c := .fpPulseEnd) hs).timers h⟩
    fun u v hu hv => ?_).2
  obtain ⟨hl, hsound⟩ := hu
  have hlv := (frame_react hv).loader
  refine ⟨hlv.trans hl, ?_⟩
  rcases react_timers (inService_of_loader hl hs) hv with e | e
  · exact timersSound_congr hlv e hsound
  · refine timersSound_congr (s := { u with timers := timersAfter u s.timers }) hlv e ?_
    exact ⟨hsound.1, hsound.2.1, timersAfter_sound u hsound.2.1 (vectorSound_congr hl h.2.2)⟩

/-- An image that passes validation defines its timers in range and each once (R159, R198). -/
theorem defsSound_of_validated {own : Nat} {memory : List Byte} {fields : ImageFields} {i : Image} (hd : decodedImage fields = some i)
    (hv : validate own memory fields = 0) : DefsSound i.body.timers := by
  have once : timersOnce i.body = true := by
    by_contra k
    unfold validate judgeImage at hv
    rw [hd] at hv
    revert hv
    simp only [k]
    repeat' split
    all_goals simp_all
  have ranges : rangesOk i.body = true := by
    unfold decodedImage at hd
    split at hd
    · split at hd
      · cases hd
        simp_all
      · cases hd
    · cases hd
  have fields_ : ∀ k ∈ i.body.timers, timerOk k = true := by
    simp only [rangesOk, permitFieldsOk, Bool.and_eq_true, List.all_eq_true] at ranges
    exact ranges.2.1.2
  refine ⟨by simpa [timersOnce] using once, fun k hk => ?_⟩
  have := fields_ k hk
  simp only [timerOk, within, Bool.and_eq_true, decide_eq_true_eq] at this
  omega

theorem timersSound_of_idle (h1 : t.loader.mode = .starting → t.loader.image = none) (h2 : DefsSound (cfg t).timers)
    (h3 : ∀ d : Fin 16, t.timers[d].state = .idle ∧ t.timers[d].elapsed = 0) : TimersSound t :=
  ⟨h1, h2, fun d => timerSound_idle (fun k hk => (h2.2 k (List.mem_of_find?_eq_some hk)).2) (h3 d).1 (h3 d).2⟩

theorem enterOperating_timersSound {memory : List Byte} {fields : ImageFields} {i : Image} (hm : s.loader.mode = .starting)
    (hd : decodedImage fields = some i) (hv : validate s.loader.address.toNat memory fields = 0) (h : TimersSound s) :
    TimersSound (enterOperating s i) := by
  obtain ⟨h1, -, h3⟩ := h
  have blank : (cfg s).timers = [] := by unfold cfg; rw [h1 hm]; rfl
  refine timersSound_of_idle nofun (defsSound_of_validated hd hv) fun d => ?_
  have idle := h3 d
  rwa [show timerDef s d.val = none by unfold timerDef; rw [blank]; rfl] at idle

theorem Act.timersSound (h : Act c s t) (hs : TimersSound s) : TimersSound t := by
  cases h with
  | move h => exact timersSound_congr h.loader h.timers hs
  | settles hserve => exact settle_timersSound hserve hs
  | dwells ts h => exact h hs
  | serves memory fields i _ hm hd hv => exact enterOperating_timersSound hm hd hv hs
  | faults memory fields k _ hm => exact ⟨nofun, hs.2⟩
  | maintains m _ hc =>
    obtain ⟨_, _, rfl⟩ | ⟨_, _, rfl⟩ := hc
    · exact ⟨nofun, hs.2⟩
    · exact ⟨nofun, hs.2⟩
  | resets hd _ _ => exact timersSound_of_idle nofun hs.2.1 fun d => by simp [enterWarmReset, timerReset]
  | returns r _ _ => exact ⟨nofun, hs.2⟩

theorem coldState_timersSound (pins : BitVec 6) (s : State) : TimersSound (coldState pins s) :=
  timersSound_of_idle (fun _ => rfl) ⟨List.nodup_nil, nofun⟩ fun d => by simp [coldState, State.reset, timerReset]

theorem step_timersSound (h : TimersSound s) (hstep : step s = .next t) : TimersSound t :=
  step_keeps (fun _ _ _ k => k.timersSound) coldState_timersSound
    (fun u hu => by obtain ⟨n, e⟩ := tick_eq u; rw [e]; exact hu) (fun _ _ hu => hu) h hstep

end Sys2Proof.Machine

open Sys2Proof Sys2Proof.Machine

/-- Settles O47: each act moves no counter but its command's, and the commands that count one pack count it once. -/
theorem countersMoveAtTheirCommands : Obligations.CountersMoveAtTheirCommands := by
  intro c s t h hc
  have k := exec_counted hc h
  refine ⟨k.admitted.elim .inl ?_, k.handedIn, k.handedOut.elim .inl ?_, k.shredded, k.cleared.elim .inl ?_, k.lost.elim .inl ?_⟩
  · rintro ⟨hd, bay, id, cls, cells, e, rfl⟩
    exact (request_staysOrSteps (admitAnswer_admitted bay id cls cells e s) h).imp_right fun k => ⟨k, _, _, _, _, _, _, rfl⟩
  · rintro ⟨hd, id, rfl⟩
    exact (exec_landed_handedOut h).imp_right fun k => ⟨k, _, _, rfl⟩
  · rintro (⟨hd, bay, rfl⟩ | ⟨hd, rfl⟩)
    · exact (request_staysOrSteps (clearBayAnswer_cleared bay s) h).imp_right fun k => ⟨k, .inl ⟨_, _, rfl⟩⟩
    · exact (request_staysOrSteps (clearChuteAnswer_cleared s) h).imp_right fun k => ⟨k, .inr ⟨_, rfl⟩⟩
  · rintro ⟨hd, id, rfl⟩
    exact (request_staysOrSteps (resolveLostAnswer_lost id s) h).imp_right fun k => ⟨k, _, _, rfl⟩

/-- Settles O52: no act but a RESET's lowers a latched row, and each hands a self-clearing row its condition. -/
theorem latchedRowsStayRaised : Obligations.LatchedRowsStayRaised := by
  refine ⟨fun c s t r h hl hr hreset hc => ?_, fun r _ => ?_, fun _ _ => step_selfClearing⟩
  · exact (exec_ran c s hc t h).acts.keep (P := fun u => raised u r = true) (fun _ _ k hu => k.raised_kept hl hu hreset) hr
  · exact coldState_selfClearing 0 State.reset r ‹_›

/-- Settles O58: the timers of an event are judged from sound ones, and a load or reset leaves them IDLE. -/
theorem dwellTimersStaySound : Obligations.DwellTimersStaySound := fun _ _ => step_timersSound

end

section
/-! SUPPORT. The pack table, its places, the infeed queue, the FIFOs and the log along the acts of a step; settles O56 and O57. -/

namespace Sys2Proof.Machine

variable {c : Instr} {s t u : State}

/-! ### Looking up records in a changed list -/

section Lists

variable {α β : Type} {p q : α → Bool} {f : α → α} {g : α → Option β} {l l' : List α} {r : α}

theorem find?_eraseP_of_not (hr : l.find? p = some r) (hq : q r = false) : (l.eraseP p).find? q = l.find? q := by
  induction l with
  | nil => rfl
  | cons x xs ih =>
    by_cases hx : p x = true
    · obtain rfl : x = r := by simpa [hx] using hr
      simp [hx, hq]
    · have := ih (by simpa [hx] using hr)
      simp [hx, List.find?_cons, this]

theorem find?_modifyFirst_of_not (hr : l.find? p = some r) (hq : q r = false) (hf : q (f r) = false) :
    (modifyFirst p f l).find? q = l.find? q := by
  induction l with
  | nil => rfl
  | cons x xs ih =>
    unfold modifyFirst
    by_cases hx : p x = true
    · obtain rfl : x = r := by simpa [hx] using hr
      simp [hx, hq, hf]
    · have := ih (by simpa [hx] using hr)
      simp [hx, List.find?_cons, this]

theorem find?_modifyFirst_self (hr : l.find? p = some r) (hf : p (f r) = true) : (modifyFirst p f l).find? p = some (f r) := by
  induction l with
  | nil => cases hr
  | cons x xs ih =>
    unfold modifyFirst
    by_cases hx : p x = true
    · obtain rfl : x = r := by simpa [hx] using hr
      simp [hx, hf]
    · have := ih (by simpa [hx] using hr)
      simp [hx, this]

theorem mem_modifyFirst (hr : l.find? p = some r) : f r ∈ modifyFirst p f l := by
  induction l with
  | nil => cases hr
  | cons x xs ih =>
    unfold modifyFirst
    by_cases hx : p x = true
    · obtain rfl : x = r := by simpa [hx] using hr
      simp [hx]
    · simp [hx, ih (by simpa [hx] using hr)]

theorem filterMap_modifyFirst (hr : l.find? p = some r) (hg : g (f r) = g r) : (modifyFirst p f l).filterMap g = l.filterMap g := by
  induction l with
  | nil => rfl
  | cons x xs ih =>
    unfold modifyFirst
    by_cases hx : p x = true
    · obtain rfl : x = r := by simpa [hx] using hr
      simp [hx, List.filterMap_cons, hg]
    · have := ih (by simpa [hx] using hr)
      simp [hx, List.filterMap_cons, this]

theorem length_modifyFirst (p : α → Bool) (f : α → α) (l : List α) : (modifyFirst p f l).length = l.length := by
  induction l with
  | nil => rfl
  | cons x xs ih =>
    unfold modifyFirst
    split
    · rfl
    · exact congrArg Nat.succ ih

/-- Lists that agree on a test pairwise agree on what it finds first. -/
theorem find?_of_forall₂ {R : α → α → Prop} (h : List.Forall₂ R l l') (hq : ∀ a b, R a b → q b = q a) :
    Option.Rel R (l.find? q) (l'.find? q) := by
  induction h with
  | nil => exact .none
  | @cons a b _ _ hab _ ih =>
    rw [List.find?_cons, List.find?_cons, hq a b hab]
    split
    · exact .some hab
    · exact ih

end Lists

theorem filterMap_id_of_sameRole {l l' : List PackRecord} (h : List.Forall₂ (SameRole s) l l') :
    l'.filterMap PackRecord.id = l.filterMap PackRecord.id := by
  induction h with
  | nil => rfl
  | cons hab _ ih => rw [List.filterMap_cons, List.filterMap_cons, hab.id, ih]

theorem hasId_iff {id : PackId} {r : PackRecord} : hasId id r = true ↔ r.id = some id := by simp [hasId]

theorem hasId_eq_false_iff {id : PackId} {r : PackRecord} : hasId id r = false ↔ r.id ≠ some id := by simp [hasId]

theorem isAtBay_eq_false_of_stage {b : BayIdx} {r : PackRecord} (h : r.stage ≠ .atBay) : isAtBay b r = false := by simp [isAtBay, h]

theorem isAtBay_iff {b : BayIdx} {r : PackRecord} : isAtBay b r = true ↔ r.stage = .atBay ∧ r.bay = some b := by simp [isAtBay]

theorem id_of_recordOfId {id : PackId} {r : PackRecord} (h : recordOfId s id = some r) : r.id = some id :=
  hasId_iff.1 (List.find?_some h)

/-- The pack IDs in the table, in table order. -/
def tableIds (s : State) : List PackId := s.packs.records.filterMap PackRecord.id

theorem mem_tableIds_iff {id : PackId} : id ∈ tableIds s ↔ recordOfId s id ≠ none := by
  unfold tableIds recordOfId
  rw [List.mem_filterMap, Ne, List.find?_eq_none]
  simp [hasId]

/-- With no ID twice, a record held is the one that its ID finds. -/
theorem recordOfId_of_mem {id : PackId} {r : PackRecord} (h : (tableIds s).Nodup) (hr : r ∈ s.packs.records) (hid : r.id = some id) :
    recordOfId s id = some r := by
  unfold tableIds at h
  unfold recordOfId
  generalize s.packs.records = l at h hr
  induction l with
  | nil => cases hr
  | cons x xs ih =>
    rcases List.mem_cons.1 hr with rfl | hr
    · simp [hasId, hid]
    · have notFirst : x.id ≠ some id := by
        intro e
        rw [List.filterMap_cons, e] at h
        exact (List.nodup_cons.1 h).1 (List.mem_filterMap.2 ⟨r, hr, hid⟩)
      rw [List.find?_cons, hasId_eq_false_iff.2 notFirst]
      refine ih ?_ hr
      rw [List.filterMap_cons] at h
      split at h
      · exact h
      · exact (List.nodup_cons.1 h).2

/-! ### The pack table (R50, R51) -/

theorem tableSound_iff : TableSound s ↔ s.packs.records.length ≤ Config.tableSize ∧ (tableIds s).Nodup := Iff.rfl

theorem tableSound_of_sublist (hl : t.packs.records.length ≤ s.packs.records.length) (hi : (tableIds t).Sublist (tableIds s))
    (h : TableSound s) : TableSound t := ⟨hl.trans h.1, hi.nodup h.2⟩

theorem tableSound_congr (hp : t.packs.records = s.packs.records) (h : TableSound s) : TableSound t := by
  unfold TableSound
  rwa [hp]

theorem tableSound_addRecord {r : PackRecord} (free : recordFree s = true) (fresh : ∀ id, r.id = some id → recordOfId s id = none)
    (h : TableSound s) : TableSound (addRecord s r) := by
  have room : s.packs.records.length < Config.tableSize := by simpa [recordFree] using free
  refine ⟨by simpa using room, ?_⟩
  rw [addRecord_packs_records, List.filterMap_append]
  cases hid : r.id with
  | none => simpa [List.filterMap_cons, hid] using h.2
  | some id =>
    have absent : id ∉ tableIds s := fun hm => mem_tableIds_iff.1 hm (fresh id hid)
    rw [List.filterMap_cons, hid]
    exact List.nodup_append.2 ⟨h.2, by simp, by rintro a ha b hb rfl; simp at hb; exact absent (hb ▸ ha)⟩

theorem tableSound_modifyFirst {p : PackRecord → Bool} {f : PackRecord → PackRecord} {r : PackRecord}
    (hr : s.packs.records.find? p = some r) (hid : (f r).id = r.id) (h : TableSound s) : TableSound (updRecords s (modifyFirst p f)) := by
  refine tableSound_of_sublist (by simp [length_modifyFirst]) ?_ h
  unfold tableIds
  rw [updRecords_packs_records, filterMap_modifyFirst hr hid]

theorem tableSound_eraseP (p : PackRecord → Bool) (h : TableSound s) : TableSound (updRecords s fun l => l.eraseP p) :=
  tableSound_of_sublist (List.length_eraseP_le) (List.eraseP_sublist.filterMap _) h

theorem tableSound_sameRole {l : List PackRecord} (hl : List.Forall₂ (SameRole s) s.packs.records l) (h : TableSound s) :
    TableSound (updRecords s fun _ => l) := by
  refine ⟨?_, ?_⟩
  · rw [updRecords_packs_records, ← hl.length_eq]
    exact h.1
  · rw [updRecords_packs_records, filterMap_id_of_sameRole hl]
    exact h.2

theorem Move.tableSound (h : Move c s t) (hs : TableSound s) : TableSound t := by
  cases h with
  | givesUp b =>
    cases hr : recordOfBay s b with
    | none =>
      refine tableSound_congr ?_ hs
      exact modifyFirst_of_find?_none _ hr
    | some r => exact tableSound_modifyFirst (s := updHandover s b fun x => { x with claim := false }) hr rfl hs
  | marks l h => exact tableSound_sameRole h hs
  | tallies p h _ => exact tableSound_congr h hs
  | enters r free fresh _ => exact tableSound_addRecord free fresh hs
  | reserves r id free hid fresh _ _ =>
    exact tableSound_congr (s := addRecord s r) rfl (tableSound_addRecord free (fun i hi => by rw [hid] at hi; cases hi; exact fresh) hs)
  | removes p r _ _ => exact tableSound_eraseP p hs
  | removesSlot id r _ _ => exact tableSound_eraseP (hasId id) hs
  | retires p r f hr _ hid _ => exact tableSound_modifyFirst hr hid hs
  | retiresSlot id r f hr _ hid _ => exact tableSound_modifyFirst hr hid hs
  | leavesInside b id r f hr _ _ _ hid _ _ => exact tableSound_modifyFirst hr hid hs
  | arrives id r f _ hr hid _ => exact tableSound_modifyFirst hr hid hs
  | feeds id _ hw =>
    unfold slotStage at hw
    obtain ⟨r, hr, -⟩ := Option.map_eq_some_iff.1 hw
    exact tableSound_modifyFirst hr rfl hs
  | raises r => rw [raiseRow_eq]; exact hs
  | lowers r _ => rw [lowerRow_eq]; exact hs
  | _ => exact hs

theorem warmReset_packs (s : State) (a : Addr) (q : Byte) : (enterWarmReset s a q).packs = s.packs := by
  have e : (enterWarmReset s a q).packs = (warmZone s).packs := rfl
  rw [e, warmZone_eq]

theorem Act.tableSound (h : Act c s t) (hs : TableSound s) : TableSound t := by
  cases h with
  | move h => exact h.tableSound hs
  | settles hserve => exact settle_keeps (fun _ _ (k : Move c _ _) => k.tableSound) (fun _ _ h => h) hserve hs
  | resets hd _ _ => exact tableSound_congr (by rw [warmReset_packs]) hs
  | _ => exact hs

/-! ### The infeed queue (R83, R106) -/

/-- What the queue reads of the record that an ID finds. -/
def slotRole (s : State) (id : PackId) : Option (Stage × Option Addr) := (recordOfId s id).map fun r => (r.stage, r.origin)

theorem slotStage_of_role {id : PackId} (h : slotRole t id = slotRole s id) : slotStage t id = slotStage s id := by
  have stage (u : State) : slotStage u id = (slotRole u id).map Prod.fst := by
    unfold slotStage slotRole
    rw [Option.map_map]
    rfl
  rw [stage, stage, h]

theorem slotRole_of_record {id : PackId} (h : recordOfId t id = recordOfId s id) : slotRole t id = slotRole s id := by
  unfold slotRole
  rw [h]

/-- An IN_TRANSIT slot is one of an internal release. -/
def InternalTransit (s : State) (id : PackId) : Prop :=
  ∀ r, recordOfId s id = some r → r.stage = .inTransit → r.origin = some s.loader.address

theorem internalTransit_of_role {id : PackId} (hs : InternalTransit s id) (ha : t.loader.address = s.loader.address)
    (h : slotRole t id = slotRole s id) : InternalTransit t id := by
  intro r hr hst
  have e : slotRole s id = some (r.stage, r.origin) := by rw [← h, slotRole, hr]; rfl
  obtain ⟨r', hr', e'⟩ := Option.map_eq_some_iff.1 e
  obtain ⟨e1, e2⟩ := Prod.mk.injEq .. |>.mp e'
  rw [ha, ← e2]
  exact hs r' hr' (e1.trans hst)

/-- The queue with slots dropped from it is in order where the rest keep their roles. -/
theorem queueSound_of_sublist (h : QueueSound s) (ha : t.loader.address = s.loader.address) (hq : t.zone.queue.Sublist s.zone.queue)
    (hrole : ∀ id ∈ t.zone.queue, slotRole t id = slotRole s id) : QueueSound t := by
  obtain ⟨nodup, ⟨ahead, behind, e, hahead, hbehind⟩, htail, htransit⟩ := h
  have hstage : ∀ id ∈ t.zone.queue, slotStage t id = slotStage s id := fun id hm => slotStage_of_role (hrole id hm)
  rw [e] at hq
  obtain ⟨a, b, e', ha', hb'⟩ := List.sublist_append_iff.1 hq
  refine ⟨hq.nodup (e ▸ nodup), ⟨a, b, e', fun id hm => ?_, fun id hm => ?_⟩, fun id hm => ?_, fun id hm => ?_⟩
  · rw [hstage id (e' ▸ List.mem_append_left b hm)]
    exact hahead id (ha'.subset hm)
  · rw [hstage id (e' ▸ List.mem_append_right a hm)]
    exact hbehind id (hb'.subset hm)
  · rw [hstage id (List.mem_of_mem_tail hm)]
    exact htail id (e ▸ (hq.tail.subset hm))
  · exact internalTransit_of_role (htransit id (e ▸ hq.subset hm)) ha (hrole id hm)

theorem queueSound_congr (h : QueueSound s) (ha : t.loader.address = s.loader.address) (hq : t.zone.queue = s.zone.queue)
    (hp : t.packs.records = s.packs.records) : QueueSound t := by
  refine queueSound_of_sublist h ha (by rw [hq]) fun id _ => slotRole_of_record ?_
  unfold recordOfId
  rw [hp]

/-- The queue with one more slot at its end, RESERVED or of an internal release. -/
theorem queueSound_append {id : PackId} (h : QueueSound s) (ha : t.loader.address = s.loader.address) (hq : t.zone.queue = s.zone.queue ++ [id])
    (hrole : ∀ i ∈ s.zone.queue, slotRole t i = slotRole s i) (hnew : id ∉ s.zone.queue)
    (hid : slotStage t id = some .reserved ∨ slotStage t id = some .inTransit) (hin : InternalTransit t id) :
    QueueSound t := by
  obtain ⟨nodup, ⟨ahead, behind, e, hahead, hbehind⟩, htail, htransit⟩ := h
  have hstage : ∀ i ∈ s.zone.queue, slotStage t i = slotStage s i := fun i hm => slotStage_of_role (hrole i hm)
  unfold QueueSound
  rw [hq]
  refine ⟨?_, ⟨ahead, behind ++ [id], by rw [e, List.append_assoc], fun i hm => ?_, fun i hm => ?_⟩, fun i hm => ?_, fun i hm => ?_⟩
  · exact List.nodup_append.2 ⟨nodup, by simp, by rintro a ha b hb rfl; simp at hb; exact hnew (hb ▸ ha)⟩
  · rw [hstage i (e ▸ List.mem_append_left _ hm)]
    exact hahead i hm
  · rcases List.mem_append.1 hm with hm | hm
    · rw [hstage i (e ▸ List.mem_append_right _ hm)]
      exact hbehind i hm
    · obtain rfl := List.mem_singleton.1 hm
      exact hid
  · have old : i ∈ s.zone.queue.tail ∨ i = id := by
      cases hs : s.zone.queue with
      | nil => rw [hs] at hm; cases hm
      | cons x xs => rw [hs] at hm; simpa using hm
    rcases old with hm | rfl
    · rw [hstage i (List.mem_of_mem_tail hm)]
      exact htail i hm
    · rcases hid with h | h <;> rw [h] <;> nofun
  · rcases List.mem_append.1 hm with hm | hm
    · exact internalTransit_of_role (htransit i hm) ha (hrole i hm)
    · obtain rfl := List.mem_singleton.1 hm
      exact hin

/-- A slot's record is in one of the four stages of a slot, an IN_TRANSIT one from an internal release. -/
theorem record_of_slot {id : PackId} (h : QueueSound s) (hm : id ∈ s.zone.queue) : ∃ r, recordOfId s id = some r ∧
    (r.stage = .waiting ∨ r.stage = .feeding ∨ r.stage = .reserved ∨ (r.stage = .inTransit ∧ r.origin = some s.loader.address)) := by
  obtain ⟨-, ⟨ahead, behind, e, hahead, hbehind⟩, -, htransit⟩ := h
  have stages : slotStage s id = some .waiting ∨ slotStage s id = some .feeding ∨ slotStage s id = some .reserved ∨
      slotStage s id = some .inTransit := by
    rw [e] at hm
    rcases List.mem_append.1 hm with hm | hm
    · rcases hahead id hm with h | h
      · exact .inl h
      · exact .inr (.inl h)
    · rcases hbehind id hm with h | h
      · exact .inr (.inr (.inl h))
      · exact .inr (.inr (.inr h))
  unfold slotStage at stages
  cases hr : recordOfId s id with
  | none => simp [hr] at stages
  | some r =>
    have transit := htransit id hm r hr
    simp only [hr, Option.map_some, Option.some.injEq] at stages
    exact ⟨r, rfl, stages.imp_right fun h => h.imp_right fun h => h.imp_right fun h => ⟨h, transit h⟩⟩

/-- A record without a slot is that of no ID in the queue. -/
theorem unslotted_not_queued {r : PackRecord} {id : PackId} (ht : TableSound s) (hq : QueueSound s) (hr : r ∈ s.packs.records)
    (h : Unslotted s r) (hm : id ∈ s.zone.queue) : r.id ≠ some id := by
  intro hid
  obtain ⟨r', hr', hst⟩ := record_of_slot hq hm
  rw [recordOfId_of_mem ht.2 hr hid] at hr'
  cases hr'
  rcases h.stage with k | k | k | ⟨k, ko⟩ <;> rcases hst with e | e | e | ⟨e, eo⟩ <;> rw [k] at e <;> try cases e
  exact ko eo

theorem slotStage_of_recordOfId {id : PackId} {r : PackRecord} (h : recordOfId s id = some r) : slotStage s id = some r.stage := by
  unfold slotStage
  rw [h]
  rfl

/-- A record changed at its own ID, the records of other IDs as they were. -/
theorem recordOfId_updRecordOfId_of_ne {id i : PackId} {r : PackRecord} {f : PackRecord → PackRecord} (hr : recordOfId s id = some r)
    (fid : (f r).id = r.id) (hne : i ≠ id) : recordOfId (updRecordOfId s id f) i = recordOfId s i := by
  have hid := id_of_recordOfId hr
  have other : r.id ≠ some i := fun e => hne (Option.some.inj (e.symm.trans hid))
  exact find?_modifyFirst_of_not hr (hasId_eq_false_iff.2 other) (hasId_eq_false_iff.2 (fid ▸ other))

theorem recordOfId_updRecordOfId_self {id : PackId} {r : PackRecord} {f : PackRecord → PackRecord} (hr : recordOfId s id = some r)
    (fid : (f r).id = r.id) : recordOfId (updRecordOfId s id f) id = some (f r) :=
  find?_modifyFirst_self hr (hasId_iff.2 (fid.trans (id_of_recordOfId hr)))

theorem queueSound_sameRole {l : List PackRecord} (hl : List.Forall₂ (SameRole s) s.packs.records l) (h : QueueSound s) :
    QueueSound (updRecords s fun _ => l) := by
  refine queueSound_of_sublist h rfl (List.Sublist.refl _) fun id _ => ?_
  have found := find?_of_forall₂ (q := hasId id) hl fun a b hab => by simp only [hasId, hab.id]
  unfold slotRole recordOfId
  rw [updRecords_packs_records]
  generalize s.packs.records.find? (hasId id) = x at found ⊢
  generalize l.find? (hasId id) = y at found ⊢
  cases found with
  | none => rfl
  | some hab => simp only [Option.map_some, hab.stage, hab.origin]

theorem recordOfId_addRecord_of_some {r : PackRecord} {id : PackId} (h : recordOfId s id ≠ none) :
    recordOfId (addRecord s r) id = recordOfId s id := by
  obtain ⟨x, hx⟩ := Option.ne_none_iff_exists'.1 h
  unfold recordOfId at hx ⊢
  rw [addRecord_packs_records, List.find?_append, hx]
  rfl

theorem recordOfId_addRecord_new {r : PackRecord} {id : PackId} (h : recordOfId s id = none) (hid : r.id = some id) :
    recordOfId (addRecord s r) id = some r := by
  unfold recordOfId at h ⊢
  rw [addRecord_packs_records, List.find?_append, h]
  simp [hasId, hid]

theorem slot_recorded {id : PackId} (h : QueueSound s) (hm : id ∈ s.zone.queue) : recordOfId s id ≠ none := by
  obtain ⟨r, hr, -⟩ := record_of_slot h hm
  simp [hr]

theorem reserve_queueSound {r : PackRecord} {id : PackId} (hid : r.id = some id) (fresh : recordOfId s id = none)
    (stage : r.stage = .reserved) (h : QueueSound s) :
    QueueSound (updZone (addRecord s r) fun z => { z with queue := z.queue ++ [id] }) := by
  have new : recordOfId (addRecord s r) id = some r := recordOfId_addRecord_new fresh hid
  refine queueSound_append h rfl rfl (fun i hm => slotRole_of_record (recordOfId_addRecord_of_some (slot_recorded h hm)))
    (fun hm => slot_recorded h hm fresh) (.inl ?_) (fun r' hr' hst => ?_)
  · exact (slotStage_of_recordOfId new).trans (by rw [stage])
  · cases new.symm.trans hr'
    rw [stage] at hst
    cases hst

/-- Dropping an ID's slot and changing or removing its record leaves the queue in order. -/
theorem queueSound_dropSlot {id : PackId} (h : QueueSound s) (ha : t.loader.address = s.loader.address)
    (hq : t.zone.queue = s.zone.queue) (hrec : ∀ i, i ≠ id → recordOfId t i = recordOfId s i) : QueueSound (dropSlot t id) := by
  have e : (dropSlot t id).zone.queue = s.zone.queue.erase id := congrArg (List.erase · id) hq
  refine queueSound_of_sublist h ha (by rw [e]; exact List.erase_sublist) fun i hm => slotRole_of_record ?_
  rw [e, h.1.mem_erase_iff] at hm
  exact hrec i hm.1

theorem recordOfId_removeRecordOfId_of_ne {id i : PackId} {r : PackRecord} (hr : recordOfId s id = some r) (hne : i ≠ id) :
    recordOfId (removeRecordOfId s id) i = recordOfId s i := by
  have other : r.id ≠ some i := fun e => hne (Option.some.inj (e.symm.trans (id_of_recordOfId hr)))
  exact find?_eraseP_of_not hr (hasId_eq_false_iff.2 other)

/-- The stage of a slot's record changed within the same half of the queue. -/
theorem arrive_queueSound {id : PackId} {r : PackRecord} {f : PackRecord → PackRecord} (ha : awaitingSlot s = some id)
    (hr : recordOfId s id = some r) (fid : (f r).id = r.id) (stage : (f r).stage = .waiting) (h : QueueSound s) :
    QueueSound (updRecordOfId s id f) := by
  have own : slotStage (updRecordOfId s id f) id = some .waiting :=
    (slotStage_of_recordOfId (recordOfId_updRecordOfId_self hr fid)).trans (by rw [stage])
  have other : ∀ i, i ≠ id → slotRole (updRecordOfId s id f) i = slotRole s i := fun i hne =>
    slotRole_of_record (recordOfId_updRecordOfId_of_ne hr fid hne)
  have otherStage : ∀ i, i ≠ id → slotStage (updRecordOfId s id f) i = slotStage s i := fun i hne => slotStage_of_role (other i hne)
  obtain ⟨nodup, ⟨ahead, behind, e, hahead, hbehind⟩, htail, htransit⟩ := h
  have first : behind.head? = some id := by
    unfold awaitingSlot at ha
    rw [e, List.find?_append] at ha
    have none : ahead.find? (fun id => decide (slotStage s id = some .reserved ∨ slotStage s id = some .inTransit)) = none := by
      rw [List.find?_eq_none]
      intro i hi
      rcases hahead i hi with h | h <;> simp [h]
    rw [none, Option.none_or] at ha
    cases behind with
    | nil => cases ha
    | cons x xs =>
      rw [List.find?_cons, decide_eq_true (hbehind x (.head _))] at ha
      exact ha
  obtain ⟨rest, rfl⟩ := List.head?_eq_some_iff.1 first
  have split : (updRecordOfId s id f).zone.queue = (ahead ++ [id]) ++ rest := by simpa using e
  have nodup' : ((ahead ++ [id]) ++ rest).Nodup := by rw [← split]; exact nodup
  obtain ⟨hfront, hrest, hapart⟩ := List.nodup_append.1 nodup'
  refine ⟨nodup, ⟨ahead ++ [id], rest, split, fun i hm => ?_, fun i hm => ?_⟩, fun i hm => ?_, fun i hm => ?_⟩
  · by_cases hi : i = id
    · rw [hi]
      exact .inl own
    · rw [otherStage i hi]
      exact hahead i (by simpa [hi] using hm)
  · have hi : i ≠ id := fun k => hapart id (by simp) i hm k.symm
    rw [otherStage i hi]
    exact hbehind i (.tail _ hm)
  · by_cases hi : i = id
    · rw [hi, own]
      nofun
    · rw [otherStage i hi]
      exact htail i hm
  · by_cases hi : i = id
    · intro r' hr' hst
      rw [hi, recordOfId_updRecordOfId_self hr fid] at hr'
      cases hr'
      rw [stage] at hst
      cases hst
    · exact internalTransit_of_role (htransit i hm) rfl (other i hi)

theorem feed_queueSound {id : PackId} (hq : s.zone.queue.head? = some id) (hw : slotStage s id = some .waiting) (h : QueueSound s) :
    QueueSound (updRecordOfId s id (toStage s .feeding)) := by
  obtain ⟨r, hr, -⟩ := Option.map_eq_some_iff.1 hw
  have own : slotStage (updRecordOfId s id (toStage s .feeding)) id = some .feeding :=
    slotStage_of_recordOfId (recordOfId_updRecordOfId_self hr rfl)
  have other : ∀ i, i ≠ id → slotRole (updRecordOfId s id (toStage s .feeding)) i = slotRole s i := fun i hne =>
    slotRole_of_record (recordOfId_updRecordOfId_of_ne hr rfl hne)
  have otherStage : ∀ i, i ≠ id → slotStage (updRecordOfId s id (toStage s .feeding)) i = slotStage s i :=
    fun i hne => slotStage_of_role (other i hne)
  obtain ⟨nodup, ⟨ahead, behind, e, hahead, hbehind⟩, htail, htransit⟩ := h
  obtain ⟨rest, hrest⟩ := List.head?_eq_some_iff.1 hq
  have notTail : id ∉ s.zone.queue.tail := by
    rw [hrest] at nodup ⊢
    exact (List.nodup_cons.1 nodup).1
  refine ⟨nodup, ⟨ahead, behind, e, fun i hm => ?_, fun i hm => ?_⟩, fun i hm => ?_, fun i hm => ?_⟩
  · by_cases hi : i = id
    · rw [hi]
      exact .inr own
    · rw [otherStage i hi]
      exact hahead i hm
  · have hi : i ≠ id := by
      rintro rfl
      rcases hbehind i hm with k | k <;> rw [hw] at k <;> cases k
    rw [otherStage i hi]
    exact hbehind i hm
  · have hi : i ≠ id := fun k => notTail (k ▸ hm)
    rw [otherStage i hi]
    exact htail i hm
  · by_cases hi : i = id
    · intro r' hr' hst
      rw [hi, recordOfId_updRecordOfId_self hr rfl] at hr'
      cases hr'
      cases hst
    · exact internalTransit_of_role (htransit i hm) rfl (other i hi)

theorem stage_bay_of_recordOfBay {b : BayIdx} {r : PackRecord} (h : recordOfBay s b = some r) : r.stage = .atBay ∧ r.bay = some b :=
  isAtBay_iff.1 (List.find?_some h)

/-- A pack that leaves its bay for the own zone takes the last slot (R46, R87). -/
theorem leaveInside_queueSound {b : BayIdx} {id : PackId} {r : PackRecord} {f : PackRecord → PackRecord} (hr : recordOfBay s b = some r)
    (hid : r.id = some id) (fid : (f r).id = r.id) (stage : (f r).stage = .inTransit) (origin : (f r).origin = some s.loader.address)
    (ht : TableSound s) (h : QueueSound s) :
    QueueSound (emptyBay (updZone (updHandover (updRecordOfBay s b f) b fun x => { x with claim := false })
      fun z => { z with queue := z.queue ++ [id] }) b) := by
  have atBay := (stage_bay_of_recordOfBay hr).1
  have before : recordOfId s id = some r := recordOfId_of_mem ht.2 (List.mem_of_find?_eq_some hr) hid
  have after : recordOfId (updRecordOfBay s b f) id = some (f r) := by
    have held := tableSound_modifyFirst hr fid ht
    refine recordOfId_of_mem held.2 ?_ (fid.trans hid)
    exact mem_modifyFirst hr
  have new : id ∉ s.zone.queue := fun hm => by
    obtain ⟨r', hr', hst⟩ := record_of_slot h hm
    cases before.symm.trans hr'
    rw [atBay] at hst
    simp at hst
  refine queueSound_append h rfl rfl (fun i hm => slotRole_of_record ?_) new (.inr ?_) (fun r' hr' _ => ?_)
  · have other : r.id ≠ some i := fun e => new (by rw [hid] at e; cases e; exact hm)
    exact find?_modifyFirst_of_not hr (hasId_eq_false_iff.2 other) (hasId_eq_false_iff.2 (fid ▸ other))
  · exact (slotStage_of_recordOfId after).trans (by rw [stage])
  · cases after.symm.trans hr'
    exact origin

theorem Move.queueSound (h : Move c s t) (ht : TableSound s) (hs : QueueSound s) : QueueSound t := by
  cases h with
  | givesUp b =>
    have given := sameRole_modifyFirst s (isAtBay b) (fun r => { r with dest := none, deadline := none }) s.packs.records
      fun _ _ => ⟨rfl, rfl, rfl, rfl, .inr (.inl rfl)⟩
    exact queueSound_congr (queueSound_sameRole given hs) rfl rfl rfl
  | marks l h => exact queueSound_sameRole h hs
  | tallies p h _ => exact queueSound_congr hs rfl rfl h
  | enters r _ _ _ =>
    exact queueSound_of_sublist hs rfl (List.Sublist.refl _)
      fun i hm => slotRole_of_record (recordOfId_addRecord_of_some (slot_recorded hs hm))
  | reserves r id _ hid fresh stage _ => exact reserve_queueSound hid fresh stage hs
  | removes p r hr h =>
    refine queueSound_of_sublist hs rfl (List.Sublist.refl _) fun i hm => slotRole_of_record ?_
    exact find?_eraseP_of_not hr (hasId_eq_false_iff.2 (unslotted_not_queued ht hs (List.mem_of_find?_eq_some hr) h hm))
  | removesSlot id r hr _ => exact queueSound_dropSlot hs rfl rfl fun i hne => recordOfId_removeRecordOfId_of_ne hr hne
  | retires p r f hr h hid _ =>
    refine queueSound_of_sublist hs rfl (List.Sublist.refl _) fun i hm => slotRole_of_record ?_
    have other := unslotted_not_queued ht hs (List.mem_of_find?_eq_some hr) h hm
    exact find?_modifyFirst_of_not hr (hasId_eq_false_iff.2 other) (hasId_eq_false_iff.2 (hid ▸ other))
  | retiresSlot id r f hr _ hid _ => exact queueSound_dropSlot hs rfl rfl fun i hne => recordOfId_updRecordOfId_of_ne hr hid hne
  | leavesInside b id r f hr hid _ _ fid stage origin => exact leaveInside_queueSound hr hid fid stage origin ht hs
  | arrives id r f ha hr fid stage => exact arrive_queueSound ha hr fid stage hs
  | feeds id hq hw => exact feed_queueSound hq hw hs
  | zone z h => exact queueSound_congr hs rfl h.queue rfl
  | raises r => rw [raiseRow_eq]; exact hs
  | lowers r _ => rw [lowerRow_eq]; exact hs
  | _ => exact hs

theorem warmZone_queue (s : State) : (warmZone s).zone.queue = s.zone.queue := by
  unfold warmZone
  split
  iterate 8 rfl

theorem Act.address (h : Act c s t) : t.loader.address = s.loader.address := by
  cases h with
  | move h => rw [h.loader]
  | settles _ => rw [settle_loader]
  | _ => rfl

theorem Act.queueSound (h : Act c s t) (hs : TableSound s ∧ QueueSound s) : TableSound t ∧ QueueSound t := by
  refine ⟨h.tableSound hs.1, ?_⟩
  cases h with
  | move h => exact h.queueSound hs.1 hs.2
  | settles hserve =>
    exact (settle_keeps (P := fun u => TableSound u ∧ QueueSound u)
      (fun _ _ (k : Move c _ _) hu => ⟨k.tableSound hu.1, k.queueSound hu.1 hu.2⟩) (fun _ _ h => h) hserve hs).2
  | resets hd _ _ =>
    exact queueSound_congr hs.2 rfl ((congrArg Zone.queue (enterWarmReset_zone ..)).trans (warmZone_queue s)) (by rw [warmReset_packs])
  | _ => exact queueSound_congr hs.2 rfl rfl rfl

theorem coldState_tableSound (pins : BitVec 6) (s : State) : TableSound (coldState pins s) := ⟨Nat.zero_le _, List.nodup_nil⟩

theorem coldState_queueSound (pins : BitVec 6) (s : State) : QueueSound (coldState pins s) :=
  ⟨List.nodup_nil, ⟨[], [], rfl, nofun, nofun⟩, nofun, nofun⟩

theorem step_queueSound (h : TableSound s ∧ QueueSound s) (hstep : step s = .next t) : TableSound t ∧ QueueSound t :=
  step_keeps (P := fun u => TableSound u ∧ QueueSound u) (fun _ _ _ k => k.queueSound)
    (fun pins u => ⟨coldState_tableSound pins u, coldState_queueSound pins u⟩)
    (fun u hu => by obtain ⟨n, e⟩ := tick_eq u; rw [e]; exact hu) (fun _ _ hu => hu) h hstep

/-! ### Places (R87, R106) -/

/-- The claim of one bay as a number. -/
def claimOf (s : State) (b : BayIdx) : Nat := s.handover[b].claim.toNat

theorem claimCount_eq (s : State) : claimCount s = claimOf s 0 + claimOf s 1 + claimOf s 2 + claimOf s 3 := by
  unfold claimCount allBays claimOf
  simp only [← List.countP_eq_length_filter, List.countP_cons, List.countP_nil]
  cases s.handover[(0 : BayIdx)].claim <;> cases s.handover[(1 : BayIdx)].claim <;> cases s.handover[(2 : BayIdx)].claim <;>
    cases s.handover[(3 : BayIdx)].claim <;> rfl

theorem handover_updHandover (s : State) (b d : BayIdx) (f : Handover → Handover) :
    (updHandover s b f).handover[d] = if d = b then f s.handover[b] else s.handover[d] := by
  by_cases e : b = d
  · subst e
    simp [updHandover]
  · have : b.val ≠ d.val := fun k => e (Fin.ext k)
    simp [updHandover, this, Ne.symm e]

/-- One bay's claim set or ended moves the count by it alone. -/
theorem claimCount_updHandover (s : State) (b : BayIdx) (f : Handover → Handover) :
    claimCount (updHandover s b f) + claimOf s b = claimCount s + (f s.handover[b]).claim.toNat := by
  rw [claimCount_eq, claimCount_eq]
  unfold claimOf
  simp only [handover_updHandover]
  fin_cases b <;> simp <;> omega

theorem claimCount_congr (h : t.handover = s.handover) : claimCount t = claimCount s := by
  unfold claimCount
  rw [h]

theorem placesTaken_congr (hq : t.zone.queue = s.zone.queue) (hh : t.handover = s.handover) : placesTaken t = placesTaken s := by
  unfold placesTaken
  rw [hq, claimCount_congr hh]

/-- A bay that releases to the own zone holds its claim. -/
def ClaimHeld (s : State) (b : BayIdx) : Prop :=
  s.bays[b].state = .releasing → (recordOfBay s b).bind PackRecord.dest = some s.loader.address → s.handover[b].claim = true

/-- No more places are taken, and bays, claims and the records that bays release are as before. -/
theorem placesSound_of_records (h : PlacesSound s) (hq : t.zone.queue.length ≤ s.zone.queue.length) (hh : t.handover = s.handover)
    (ha : t.loader.address = s.loader.address) (hb : t.bays = s.bays)
    (hr : ∀ b : BayIdx, s.bays[b].state = .releasing → recordOfBay t b = recordOfBay s b) : PlacesSound t := by
  refine ⟨?_, fun b hst hd => ?_⟩
  · refine Nat.le_trans ?_ h.1
    unfold placesTaken
    rw [claimCount_congr hh]
    exact Nat.add_le_add_right hq _
  · rw [hb] at hst
    rw [hr b hst, ha] at hd
    rw [hh]
    exact h.2 b hst hd

theorem bays_updBay (s : State) (b d : BayIdx) (f : Bay → Bay) : (updBay s b f).bays[d] = if d = b then f s.bays[b] else s.bays[d] := by
  by_cases e : b = d
  · subst e
    simp [updBay]
  · have : b.val ≠ d.val := fun k => e (Fin.ext k)
    simp [updBay, this, Ne.symm e]

theorem recordOfBay_addRecord {r : PackRecord} {b : BayIdx} (h : isAtBay b r = false) : recordOfBay (addRecord s r) b = recordOfBay s b := by
  unfold recordOfBay
  rw [addRecord_packs_records, List.find?_append]
  simp [h]

theorem placesSound_updBay {b : BayIdx} {f : Bay → Bay}
    (hf : (f s.bays[b]).state = .releasing → s.bays[b].state = .releasing ∨
      ((recordOfBay s b).bind PackRecord.dest = some s.loader.address → s.handover[b].claim = true)) (h : PlacesSound s) :
    PlacesSound (updBay s b f) := by
  refine ⟨h.1, fun d hst hd => ?_⟩
  rw [bays_updBay] at hst
  by_cases e : d = b
  · subst e
    rw [if_pos rfl] at hst
    exact (hf hst).elim (fun k => h.2 d k hd) fun k => k hd
  · rw [if_neg e] at hst
    exact h.2 d hst hd

theorem placesSound_updHandover {b : BayIdx} {f : Handover → Handover}
    (hf : (f s.handover[b]).claim = s.handover[b].claim ∨ (f s.handover[b]).claim = true ∧ placesTaken s < Config.queueSize)
    (h : PlacesSound s) : PlacesSound (updHandover s b f) := by
  have count := claimCount_updHandover s b f
  have queue : (updHandover s b f).zone.queue = s.zone.queue := rfl
  have claimed : s.handover[b].claim = true → (f s.handover[b]).claim = true := by
    intro k
    rcases hf with hf | hf
    · exact hf.trans k
    · exact hf.1
  refine ⟨?_, fun d hst hd => ?_⟩
  · have le := h.1
    unfold placesTaken claimOf at *
    rw [queue]
    rcases hf with hf | ⟨hf, room⟩
    · rw [hf] at count
      omega
    · rw [hf, Bool.toNat_true] at count
      omega
  · have held := h.2 d hst hd
    rw [handover_updHandover]
    split
    · rename_i e
      exact claimed (e ▸ held)
    · exact held

theorem placesSound_sameRole {l : List PackRecord} (hl : List.Forall₂ (SameRole s) s.packs.records l) (h : PlacesSound s) :
    PlacesSound (updRecords s fun _ => l) := by
  refine ⟨h.1, fun b hst hd => h.2 b hst ?_⟩
  have found := find?_of_forall₂ (q := isAtBay b) hl fun x y hxy => by simp only [isAtBay, hxy.stage, hxy.bay]
  unfold recordOfBay at hd ⊢
  rw [updRecords_packs_records] at hd
  cases hr : s.packs.records.find? (isAtBay b) with
  | none =>
    rw [hr] at found
    generalize l.find? (isAtBay b) = y at found hd
    cases found
    exact hd
  | some r =>
    have atBay := isAtBay_iff.1 (List.find?_some hr)
    rw [hr] at found
    generalize l.find? (isAtBay b) = y at found hd
    cases found with
    | some hxy =>
      rcases hxy.dest with e | e | e
      · rw [Option.bind_some, e] at hd
        exact hd
      · rw [Option.bind_some, e] at hd
        cases hd
      · exact absurd hst (e b atBay.2)

/-- A record whose destination is given up. -/
def destGone (r : PackRecord) : PackRecord := { r with dest := none, deadline := none }

/-- What the handover engine keeps for a bay whose claim ends. -/
def claimGone (x : Handover) : Handover := { x with claim := false }

theorem claimCount_claimGone (s : State) (b : BayIdx) : claimCount (updHandover s b claimGone) + claimOf s b = claimCount s :=
  claimCount_updHandover s b claimGone

theorem recordOfBay_destGone (s : State) (b d : BayIdx) :
    recordOfBay (updRecordOfBay s b destGone) d = if d = b then (recordOfBay s b).map destGone else recordOfBay s d := by
  by_cases e : d = b
  · rw [e, if_pos rfl]
    exact recordOfBay_updRecordOfBay s b destGone fun _ => ⟨rfl, rfl⟩
  · rw [if_neg e]
    cases hr : recordOfBay s b with
    | none => exact congrArg (List.find? (isAtBay d)) (modifyFirst_of_find?_none _ hr)
    | some r =>
      have not : isAtBay d r = false := by simp [isAtBay, (stage_bay_of_recordOfBay hr).2, Ne.symm e]
      exact find?_modifyFirst_of_not hr not not

theorem placesSound_givesUp {b : BayIdx} (h : PlacesSound s) : PlacesSound (updRecordOfBay (updHandover s b claimGone) b destGone) := by
  refine ⟨?_, fun d hst hd => ?_⟩
  · have le := h.1
    have fewer := claimCount_claimGone s b
    have e : placesTaken (updRecordOfBay (updHandover s b claimGone) b destGone) =
      s.zone.queue.length + claimCount (updHandover s b claimGone) := rfl
    rw [e]
    unfold placesTaken at le
    omega
  · rw [recordOfBay_destGone] at hd
    by_cases e : d = b
    · rw [if_pos e] at hd
      cases hr : recordOfBay (updHandover s b claimGone) b <;> rw [hr] at hd <;> cases hd
    · rw [if_neg e] at hd
      have claim := handover_updHandover s b d claimGone
      rw [if_neg e] at claim
      exact (congrArg Handover.claim claim).trans (h.2 d hst hd)

/-- A pack that leaves bay b for the own zone, its record as f makes it and its ID last in the queue. -/
def leftInside (s : State) (b : BayIdx) (id : PackId) (f : PackRecord → PackRecord) : State :=
  emptyBay (updZone (updHandover (updRecordOfBay s b f) b claimGone) fun z => { z with queue := z.queue ++ [id] }) b

theorem leftInside_handover (s : State) (b : BayIdx) (id : PackId) (f : PackRecord → PackRecord) :
    (leftInside s b id f).handover = (updHandover s b claimGone).handover := rfl

theorem leftInside_queue (s : State) (b : BayIdx) (id : PackId) (f : PackRecord → PackRecord) :
    (leftInside s b id f).zone.queue = s.zone.queue ++ [id] := rfl

theorem recordOfBay_leftInside (s : State) (b d : BayIdx) (id : PackId) (f : PackRecord → PackRecord) :
    recordOfBay (leftInside s b id f) d = recordOfBay (updRecordOfBay s b f) d := rfl

theorem leftInside_state_self (s : State) (b : BayIdx) (id : PackId) (f : PackRecord → PackRecord) :
    (leftInside s b id f).bays[b].state = .empty := by simp [leftInside, emptyBay, updMeas, updBay]

theorem leftInside_state_of_ne (s : State) {b d : BayIdx} (id : PackId) (f : PackRecord → PackRecord) (h : d ≠ b) :
    (leftInside s b id f).bays[d].state = s.bays[d].state := by
  have : b.val ≠ d.val := fun k => h (Fin.ext k).symm
  simp [leftInside, emptyBay, updMeas, updBay, updZone, updHandover, updRecordOfBay, updRecords, updPacks, this]

theorem placesSound_leavesInside {b : BayIdx} {id : PackId} {r : PackRecord} {f : PackRecord → PackRecord} (hr : recordOfBay s b = some r)
    (dest : r.dest = some s.loader.address) (hb : s.bays[b].state = .releasing) (stage : (f r).stage = .inTransit) (h : PlacesSound s) :
    PlacesSound (leftInside s b id f) := by
  have claim : s.handover[b].claim = true := h.2 b hb (by rw [hr]; exact dest)
  refine ⟨?_, fun d hst hd => ?_⟩
  · have le := h.1
    have fewer := claimCount_claimGone s b
    unfold placesTaken at le ⊢
    unfold claimOf at fewer
    rw [claim, Bool.toNat_true] at fewer
    rw [leftInside_queue, List.length_append, List.length_singleton, claimCount_congr (leftInside_handover s b id f)]
    omega
  · have e : d ≠ b := by
      rintro rfl
      rw [leftInside_state_self] at hst
      cases hst
    rw [leftInside_state_of_ne s id f e] at hst
    have not : isAtBay d r = false := by simp [isAtBay, (stage_bay_of_recordOfBay hr).2, Ne.symm e]
    have other : recordOfBay (updRecordOfBay s b f) d = recordOfBay s d :=
      find?_modifyFirst_of_not hr not (isAtBay_eq_false_of_stage (by rw [stage]; nofun))
    rw [recordOfBay_leftInside, other] at hd
    rw [leftInside_handover, handover_updHandover, if_neg e]
    exact h.2 d hst hd

theorem Move.placesSound (h : Move c s t) (hs : PlacesSound s) : PlacesSound t := by
  have unslotted {r : PackRecord} {b : BayIdx} (h : Unslotted s r) (hb : s.bays[b].state = .releasing) : isAtBay b r = false := by
    by_contra k
    obtain ⟨k1, k2⟩ := isAtBay_iff.1 (by simpa using k)
    exact h.bay k1 b k2 hb
  cases h with
  | bay b f h => exact placesSound_updBay h hs
  | claims b f h => exact placesSound_updHandover h hs
  | givesUp b => exact placesSound_givesUp hs
  | marks l h => exact placesSound_sameRole h hs
  | tallies p h _ => exact placesSound_of_records hs le_rfl rfl rfl rfl fun b _ => by unfold recordOfBay; rw [h]
  | enters r _ _ hb =>
    exact placesSound_of_records hs le_rfl rfl rfl rfl fun b hst => recordOfBay_addRecord (by
      by_contra k
      exact hb b (isAtBay_iff.1 (by simpa using k)).2 hst)
  | reserves r id _ _ _ stage room =>
    have others (b : BayIdx) : recordOfBay (addRecord s r) b = recordOfBay s b :=
      recordOfBay_addRecord (isAtBay_eq_false_of_stage (by rw [stage]; nofun))
    refine ⟨?_, fun b hst hd => hs.2 b hst ((congrArg (Option.bind · PackRecord.dest) (others b)).symm.trans hd)⟩
    have e : placesTaken (updZone (addRecord s r) fun z => { z with queue := z.queue ++ [id] }) = (s.zone.queue ++ [id]).length + claimCount s :=
      rfl
    rw [e, List.length_append, List.length_singleton]
    unfold placesTaken at room
    omega
  | removes p r hr h => exact placesSound_of_records hs le_rfl rfl rfl rfl fun b hst => find?_eraseP_of_not hr (unslotted h hst)
  | removesSlot id r hr h =>
    exact placesSound_of_records hs (List.length_erase_le) rfl rfl rfl fun b _ => find?_eraseP_of_not hr (isAtBay_eq_false_of_stage h)
  | retires p r f hr h _ stage =>
    exact placesSound_of_records hs le_rfl rfl rfl rfl fun b hst =>
      find?_modifyFirst_of_not hr (unslotted h hst) (isAtBay_eq_false_of_stage stage)
  | retiresSlot id r f hr h _ stage =>
    exact placesSound_of_records hs (List.length_erase_le) rfl rfl rfl fun b _ =>
      find?_modifyFirst_of_not hr (isAtBay_eq_false_of_stage h) (isAtBay_eq_false_of_stage stage)
  | leavesInside b id r f hr _ dest hb _ stage _ => exact placesSound_leavesInside hr dest hb stage hs
  | arrives id r f ha hr _ stage =>
    have was : r.stage ≠ .atBay := by
      have k := List.find?_some ha
      rw [slotStage_of_recordOfId hr] at k
      intro e
      simp [e] at k
    exact placesSound_of_records hs le_rfl rfl rfl rfl fun b _ =>
      find?_modifyFirst_of_not hr (isAtBay_eq_false_of_stage was) (isAtBay_eq_false_of_stage (by rw [stage]; nofun))
  | feeds id _ hw =>
    obtain ⟨r, hr, hst⟩ := Option.map_eq_some_iff.1 hw
    exact placesSound_of_records hs le_rfl rfl rfl rfl fun b _ =>
      find?_modifyFirst_of_not hr (isAtBay_eq_false_of_stage (by rw [hst]; nofun)) (isAtBay_eq_false_of_stage nofun)
  | zone z h => exact placesSound_of_records hs (by rw [← h.queue]) rfl rfl rfl fun _ _ => rfl
  | raises r => rw [raiseRow_eq]; exact hs
  | lowers r _ => rw [lowerRow_eq]; exact hs
  | _ => exact hs

theorem warmBayState_releasing {x : BayState} (h : warmBayState x = .releasing) : x = .releasing := by
  cases x <;> first | rfl | cases h

theorem enterWarmReset_placesSound (a : Addr) (q : Byte) (h : PlacesSound s) : PlacesSound (enterWarmReset s a q) := by
  have claims (b : BayIdx) : (enterWarmReset s a q).handover[b].claim = s.handover[b].claim := by simp [enterWarmReset]
  refine ⟨?_, fun b hst hd => ?_⟩
  · unfold placesTaken
    rw [enterWarmReset_zone, warmZone_queue]
    rw [show claimCount (enterWarmReset s a q) = claimCount s by unfold claimCount; simp only [claims]]
    exact h.1
  · rw [claims]
    refine h.2 b (warmBayState_releasing ?_) ?_
    · simpa [enterWarmReset, warmBay] using hst
    · unfold recordOfBay at hd ⊢
      rwa [warmReset_packs] at hd

theorem Act.placesSound (h : Act c s t) (hs : PlacesSound s) : PlacesSound t := by
  cases h with
  | move h => exact h.placesSound hs
  | settles hserve => exact settle_keeps (fun _ _ (k : Move c _ _) => k.placesSound) (fun _ _ h => h) hserve hs
  | resets hd _ _ => exact enterWarmReset_placesSound _ _ hs
  | _ => exact hs

theorem coldState_placesSound (pins : BitVec 6) (s : State) : PlacesSound (coldState pins s) := by
  refine ⟨by simp [placesTaken, claimCount, allBays, coldState, State.reset, zoneReset], fun b hst => ?_⟩
  simp [coldState, State.reset, bayReset] at hst

theorem step_placesSound (h : PlacesSound s) (hstep : step s = .next t) : PlacesSound t :=
  step_keeps (fun _ _ _ k => k.placesSound) coldState_placesSound
    (fun u hu => by obtain ⟨n, e⟩ := tick_eq u; rw [e]; exact hu) (fun _ _ hu => hu) h hstep

/-! ### FIFOs, log and originators (R133, R143, R190) -/

theorem raiseRow_log_length (s : State) (r : Row) : (raiseRow s r).causes.log.length ≤ Config.logSize := by
  unfold raiseRow
  rw [tripOnRaise_causes]
  simp only [updRow, updCauses, List.length_drop, List.length_append]
  omega

theorem raiseRow_remote (s : State) (r : Row) :
    (raiseRow s r).causes.remoteFire = s.causes.remoteFire ∧ (raiseRow s r).causes.remoteThermal = s.causes.remoteThermal :=
  ⟨(frame_raiseRow s r).remoteFire, (frame_raiseRow s r).remoteThermal⟩

theorem raiseRow_bus_handover (s : State) (r : Row) : (raiseRow s r).bus.handover = s.bus.handover := by
  unfold raiseRow tripOnRaise
  cases r <;> rfl

theorem lowerRow_remote (s : State) (r : Row) :
    (lowerRow s r).causes.remoteFire.originators.length ≤ s.causes.remoteFire.originators.length ∧
      (lowerRow s r).causes.remoteThermal.originators.length ≤ s.causes.remoteThermal.originators.length := by
  unfold lowerRow clearRemote
  cases r <;> simp [closeEntry, updRow, updCauses, remoteReset]

theorem Move.sizesSound (h : Move c s t) (hs : SizesSound s) : SizesSound t := by
  obtain ⟨hover, replies, silent, log, fire, thermal⟩ := hs
  have same : SizesSound s := ⟨hover, replies, silent, log, fire, thermal⟩
  cases h with
  | bus u h =>
    refine ⟨h.handover.elim (fun k => k.trans hover) id, h.replies.elim (fun k => k.trans replies) And.right, fun hm => ?_, log, fire, thermal⟩
    rcases h.replies with k | ⟨k, -⟩
    · rw [silent hm] at k
      exact List.length_eq_zero_iff.1 (Nat.le_zero.1 k)
    · simp [inService, show s.loader.mode = .warmReset from hm] at k
  | causes k h =>
    refine ⟨hover, replies, silent, ?_, by rwa [h.remoteFire], by rwa [h.remoteThermal]⟩
    have e := congrArg List.length h.log
    simp only [List.length_map] at e
    exact e.symm ▸ log
  | raises r =>
    refine ⟨by rwa [raiseRow_bus_handover], by rwa [(frame_raiseRow _ r).replies], ?_, raiseRow_log_length s r, ?_, ?_⟩
    · rw [(frame_raiseRow s r).loader, (frame_raiseRow s r).replies]
      exact silent
    · rwa [(raiseRow_remote s r).1]
    · rwa [(raiseRow_remote s r).2]
  | lowers r _ =>
    refine ⟨by rwa [lowerRow_bus], by rwa [lowerRow_bus], ?_, ?_, (lowerRow_remote s r).1.trans fire, (lowerRow_remote s r).2.trans thermal⟩
    · rw [lowerRow_bus, lowerRow_eq]
      exact silent
    · rwa [lowerRow_log, List.length_map]
  | reports k x h =>
    cases k
    · exact ⟨hover, replies, silent, log, h.elim (fun k => k.trans fire) id, thermal⟩
    · exact ⟨hover, replies, silent, log, fire, h.elim (fun k => k.trans thermal) id⟩
  | _ => exact same

theorem Act.sizesSound (h : Act c s t) (hs : SizesSound s) : SizesSound t := by
  cases h with
  | move h => exact h.sizesSound hs
  | settles hserve => exact settle_keeps (fun _ _ (k : Move c _ _) => k.sizesSound) (fun _ _ h => h) hserve hs
  | dwells ts _ => exact hs
  | serves memory fields i _ _ _ _ => exact ⟨hs.1, hs.2.1, nofun, hs.2.2.2⟩
  | faults memory fields k _ hm => exact ⟨hs.1, hs.2.1, nofun, hs.2.2.2⟩
  | maintains m _ hc =>
    obtain ⟨_, _, rfl⟩ | ⟨_, _, rfl⟩ := hc
    · exact ⟨hs.1, hs.2.1, nofun, hs.2.2.2⟩
    · exact ⟨hs.1, hs.2.1, nofun, hs.2.2.2⟩
  | resets hd _ _ =>
    have causes : (enterWarmReset s hd.sender hd.seq).causes = (endInhibits (warmZone s)).causes := rfl
    refine ⟨Nat.zero_le _, Nat.zero_le _, fun _ => rfl, ?_⟩
    rw [causes, warmZone_eq]
    exact hs.2.2.2
  | returns r _ hm =>
    obtain ⟨hover, -, silent, rest⟩ := hs
    refine ⟨hover, ?_, nofun, rest⟩
    have e : (backInService s r).bus.replies = s.bus.replies ++ [_] := rfl
    rw [e, silent hm]
    exact Nat.le_of_ble_eq_true rfl

/-- What the numbering of the log reads: the numbers of its entries, and the next. -/
theorem logSound_congr (hl : t.causes.log.map LogEntry.number = s.causes.log.map LogEntry.number)
    (hn : t.causes.nextEntry = s.causes.nextEntry) (h : LogSound s) : LogSound t := by
  intro k e he
  have len : t.causes.log.length = s.causes.log.length := by simpa using congrArg List.length hl
  have at_ := congrArg (·[k]?) hl
  simp only [List.getElem?_map, he, Option.map_some] at at_
  obtain ⟨e', he', hnum⟩ := Option.map_eq_some_iff.1 at_.symm
  rw [hn, len, ← hnum]
  exact h k e' he'

theorem sub_ofNat_succ (a : BitVec 16) (n : Nat) : a + 1 - BitVec.ofNat 16 (n + 1) = a - BitVec.ofNat 16 n := by
  rw [BitVec.ofNat_add]
  generalize BitVec.ofNat 16 n = b
  bv_omega

theorem raiseRow_log (s : State) (r : Row) : ∃ e : LogEntry, e.number = s.causes.nextEntry ∧
    (raiseRow s r).causes.log = (s.causes.log ++ [e]).drop ((s.causes.log ++ [e]).length - Config.logSize) ∧
    (raiseRow s r).causes.nextEntry = s.causes.nextEntry + 1 := by
  unfold raiseRow
  rw [tripOnRaise_causes]
  exact ⟨_, rfl, rfl, rfl⟩

theorem raiseRow_logSound (r : Row) (h : LogSound s) : LogSound (raiseRow s r) := by
  obtain ⟨e, hnum, hlog, hnext⟩ := raiseRow_log s r
  intro k x hx
  rw [hlog, List.getElem?_drop] at hx
  rw [hnext, hlog, List.length_drop, List.length_append, List.length_singleton]
  rw [List.length_append, List.length_singleton] at hx
  generalize s.causes.log.length + 1 - Config.logSize = d at hx ⊢
  by_cases hk : d + k < s.causes.log.length
  · rw [List.getElem?_append_left hk] at hx
    rw [h _ x hx, show s.causes.log.length + 1 - d - k = (s.causes.log.length - (d + k)) + 1 by omega, sub_ofNat_succ]
  · rw [List.getElem?_append_right (by omega)] at hx
    obtain ⟨hi, hx⟩ := List.getElem?_eq_some_iff.1 hx
    have last : d + k = s.causes.log.length := by
      rw [List.length_singleton] at hi
      omega
    rw [List.getElem_singleton] at hx
    rw [← hx, hnum, show s.causes.log.length + 1 - d - k = 0 + 1 by omega, sub_ofNat_succ]
    simp

theorem Move.logSound (h : Move c s t) (hs : LogSound s) : LogSound t := by
  cases h with
  | causes k h => exact logSound_congr h.log h.nextEntry hs
  | raises r => exact raiseRow_logSound r hs
  | lowers r _ =>
    refine logSound_congr ?_ ?_ hs
    · rw [lowerRow_log, List.map_map]
      refine List.map_congr_left fun e _ => ?_
      dsimp only [Function.comp_apply]
      split <;> rfl
    · unfold lowerRow clearRemote
      cases r <;> rfl
  | reports k x h => cases k <;> exact hs
  | _ => exact hs

theorem Act.logSound (h : Act c s t) (hs : LogSound s) : LogSound t := by
  cases h with
  | move h => exact h.logSound hs
  | settles hserve => exact settle_keeps (fun _ _ (k : Move c _ _) => k.logSound) (fun _ _ h => h) hserve hs
  | resets hd _ _ =>
    have causes : (enterWarmReset s hd.sender hd.seq).causes = (endInhibits (warmZone s)).causes := rfl
    refine logSound_congr ?_ ?_ hs <;> rw [causes, warmZone_eq] <;> rfl
  | _ => exact hs

/-- The sizes of the tables, and the numbering of the log. -/
def StoresSound (s : State) : Prop := TableSound s ∧ SizesSound s ∧ LogSound s

theorem coldState_storesSound (pins : BitVec 6) (s : State) : StoresSound (coldState pins s) := by
  refine ⟨coldState_tableSound pins s, ?_, ?_⟩
  · refine ⟨?_, ?_, fun _ => rfl, ?_, ?_, ?_⟩ <;> exact Nat.zero_le _
  · intro k e he
    cases he

theorem step_storesSound (h : StoresSound s) (hstep : step s = .next t) : StoresSound t :=
  step_keeps (fun _ _ _ k hu => ⟨k.tableSound hu.1, k.sizesSound hu.2.1, k.logSound hu.2.2⟩) coldState_storesSound
    (fun u hu => by obtain ⟨n, e⟩ := tick_eq u; rw [e]; exact hu) (fun _ _ hu => hu) h hstep

end Sys2Proof.Machine

open Sys2Proof Sys2Proof.Machine

/-- Settles O56: places and queue along the acts of a step; the order of the queue uses that no ID stands twice in the table. -/
theorem placesAreKept : Obligations.PlacesAreKept :=
  ⟨fun _ _ => step_placesSound, fun _ _ ht hq hstep => (step_queueSound ⟨ht, hq⟩ hstep).2⟩

/-- Settles O57: the sizes and the numbering of the log along the acts of a step. -/
theorem tablesKeepTheirSizes : Obligations.TablesKeepTheirSizes := fun _ _ ht hz hl hstep => step_storesSound ⟨ht, hz, hl⟩ hstep

end

section
/-! SUPPORT. The byte layouts of the line bus, each item read back from the bytes it was written to; settles O60. -/

namespace Sys2Proof

/-! ### Items -/

/-- A word is its high bits before its low bits. -/
theorem high_append_low {m n : Nat} (w : BitVec (m + n)) : (w.extractLsb' n m ++ w.extractLsb' 0 n : BitVec (m + n)) = w := by
  ext i hi
  simp only [BitVec.getElem_append, BitVec.getElem_extractLsb']
  split
  · rw [Nat.zero_add, BitVec.getLsbD_eq_getElem hi]
  · rw [show n + (i - n) = i by omega, BitVec.getLsbD_eq_getElem hi]

theorem byteAt_append_right (a b : List Byte) (i : Nat) : byteAt (a ++ b) (a.length + i) = byteAt b i := by
  unfold byteAt
  rw [List.getD_append_right _ _ _ _ (Nat.le_add_right ..), Nat.add_sub_cancel_left]

theorem byteAt_append_left {a : List Byte} (b : List Byte) {i : Nat} (h : i < a.length) : byteAt (a ++ b) i = byteAt a i := by
  unfold byteAt
  rw [List.getD_append _ _ _ _ h]

theorem word16At_bytes16 (a b : List Byte) (w : BitVec 16) : word16At (a ++ bytes16 w ++ b) a.length = w := by
  have e (i : Nat) : byteAt (a ++ bytes16 w ++ b) (a.length + i) = byteAt (bytes16 w ++ b) i := by
    rw [List.append_assoc, byteAt_append_right]
  unfold word16At
  rw [show byteAt (a ++ bytes16 w ++ b) a.length = _ from e 0, e 1]
  exact high_append_low (m := 8) (n := 8) w

theorem word24At_bytes24 (a b : List Byte) (w : BitVec 24) : word24At (a ++ bytes24 w ++ b) a.length = w := by
  have first : byteAt (a ++ bytes24 w ++ b) a.length = w.extractLsb' 16 8 := by
    rw [List.append_assoc]
    exact byteAt_append_right a (bytes24 w ++ b) 0
  have rest := word16At_bytes16 (a ++ [w.extractLsb' 16 8]) b (w.extractLsb' 0 16)
  rw [List.length_append, List.length_singleton, List.append_assoc a] at rest
  unfold word24At
  rw [first]
  exact (congrArg (w.extractLsb' 16 8 ++ ·) rest).trans (high_append_low (m := 8) (n := 16) w)

theorem word32At_bytes32 (a b : List Byte) (w : BitVec 32) : word32At (a ++ bytes32 w ++ b) a.length = w := by
  have first : byteAt (a ++ bytes32 w ++ b) a.length = w.extractLsb' 24 8 := by
    rw [List.append_assoc]
    exact byteAt_append_right a (bytes32 w ++ b) 0
  have rest := word24At_bytes24 (a ++ [w.extractLsb' 24 8]) b (w.extractLsb' 0 24)
  rw [List.length_append, List.length_singleton, List.append_assoc a] at rest
  unfold word32At
  rw [first]
  exact (congrArg (w.extractLsb' 24 8 ++ ·) rest).trans (high_append_low (m := 8) (n := 24) w)

theorem length_bytes16 (w : BitVec 16) : (bytes16 w).length = 2 := rfl
theorem length_bytes24 (w : BitVec 24) : (bytes24 w).length = 3 := rfl
theorem length_bytes32 (w : BitVec 32) : (bytes32 w).length = 4 := rfl

theorem length_of_packIdWellFormed {id : PackId} (h : packIdWellFormed id = true) : 1 ≤ id.length ∧ id.length ≤ 12 := by
  simp only [packIdWellFormed, Bool.and_eq_true, decide_eq_true_eq] at h
  exact h.1

theorem length_packIdBytes {id : PackId} (h : packIdWellFormed id = true) : (packIdBytes id).length = 13 := by
  have := length_of_packIdWellFormed h
  simp [packIdBytes]
  omega

theorem lengthByte {id : PackId} (h : packIdWellFormed id = true) : (BitVec.ofNat 8 id.length).toNat = id.length := by
  have := length_of_packIdWellFormed h
  rw [BitVec.toNat_ofNat]
  omega

/-- A pack ID read back from its thirteen bytes. -/
theorem packIdAt_packIdBytes (a b : List Byte) {id : PackId} (h : packIdWellFormed id = true) :
    packIdAt (a ++ packIdBytes id ++ b) a.length = id := by
  have len := length_of_packIdWellFormed h
  have first : byteAt (a ++ packIdBytes id ++ b) a.length = BitVec.ofNat 8 id.length := by
    rw [List.append_assoc]
    exact byteAt_append_right a (packIdBytes id ++ b) 0
  have rest : (a ++ packIdBytes id ++ b).drop (a.length + 1) = id ++ List.replicate (12 - id.length) 0#8 ++ b := by
    rw [List.append_assoc, ← List.drop_drop, List.drop_left]
    rfl
  unfold packIdAt
  dsimp only
  rw [first, lengthByte h, rest, show id.length - 12 = 0 by omega, List.replicate_zero, List.append_nil, List.take_take,
    show min id.length 12 = id.length by omega, List.append_assoc, List.take_left]

theorem flagOf_flagCode (b : Bool) : flagOf (codeByte (flagCode b)).toNat = some b := by cases b <;> rfl
theorem modeOf_modeCode (m : ReportedMode) : modeOf (codeByte (modeCode m)).toNat = some m := by cases m <;> rfl
theorem periodOf_periodCode (p : Period) : periodOf (codeByte (periodCode p)).toNat = some p := by cases p <;> rfl
theorem bayStateOf_bayStateCode (b : BayState) : bayStateOf (codeByte (bayStateCode b)).toNat = some b := by cases b <;> rfl
theorem zoneStateOf_zoneStateCode (z : ZoneState) : zoneStateOf (codeByte (zoneStateCode z)).toNat = some z := by cases z <;> rfl
theorem tripClassOf_tripClassCode (k : TripClass) : tripClassOf (codeByte (tripClassCode k)).toNat = some k := by cases k <;> rfl
theorem declineOf_declineCode (r : DeclineReason) : declineOf (codeByte (declineCode r)).toNat = some r := by cases r <;> rfl

theorem codeByte_toNat {n : Nat} (h : n < 256) : (codeByte n).toNat = n := by
  rw [codeByte, BitVec.toNat_ofNat]
  omega

/-! ### Payloads -/

theorem vector4_eq (v : Vector BayState 4) : v = #v[v[0], v[1], v[2], v[3]] := by
  ext i hi
  match i, hi with
  | 0, _ | 1, _ | 2, _ | 3, _ => rfl

theorem statusBytes_bays (p : StatusPayload) : p.bays.toList = [p.bays[0], p.bays[1], p.bays[2], p.bays[3]] := by
  conv_lhs => rw [vector4_eq p.bays]
  rfl

theorem word16_of_bytes (w : BitVec 16) : (w.extractLsb' 8 8 ++ w.extractLsb' 0 8 : BitVec 16) = w := high_append_low (m := 8) (n := 8) w

theorem statusBytes_eq (p : StatusPayload) : statusBytes p =
    [codeByte (modeCode p.mode), codeByte (periodCode p.period), codeByte (bayStateCode p.bays[0]), codeByte (bayStateCode p.bays[1]),
      codeByte (bayStateCode p.bays[2]), codeByte (bayStateCode p.bays[3]), codeByte (flagCode p.zonePresent),
      codeByte (zoneStateCode p.zoneState), p.zoneAge.extractLsb' 8 8, p.zoneAge.extractLsb' 0 8, codeByte p.freeSlots.val,
      codeByte (flagCode p.accepting), p.classes.setWidth 8, p.fireSections, p.thermalSections, codeByte p.leading.val,
      codeByte (flagCode p.lockout), codeByte p.fault.val] := by
  unfold statusBytes
  rw [statusBytes_bays]
  rfl

theorem statusOf_statusBytes (p : StatusPayload) : statusOf (statusBytes p) = some p := by
  have free : (codeByte p.freeSlots.val).toNat = p.freeSlots.val := codeByte_toNat (by omega)
  have lead : (codeByte p.leading.val).toNat = p.leading.val := codeByte_toNat (by omega)
  have fault : (codeByte p.fault.val).toNat = p.fault.val := codeByte_toNat (by omega)
  have classes : (p.classes.setWidth 8).toNat < 64 := by
    rw [BitVec.toNat_setWidth]
    have := p.classes.isLt
    omega
  have narrow : (p.classes.setWidth 8).setWidth 6 = p.classes := by simp
  have age : word16At (statusBytes p) 8 = p.zoneAge := by
    rw [statusBytes_eq]
    exact word16_of_bytes p.zoneAge
  unfold statusOf
  rw [age, statusBytes_eq]
  simp only [byteAt, List.getD_cons_zero, List.getD_cons_succ, modeOf_modeCode, periodOf_periodCode, bayStateOf_bayStateCode, flagOf_flagCode,
    zoneStateOf_zoneStateCode, free, lead, fault, classes, narrow]
  simp [guard, ← vector4_eq p.bays]

theorem length_statusBytes (p : StatusPayload) : (statusBytes p).length = 18 := by rw [statusBytes_eq]; rfl

theorem offerFlags_bits (o : OfferPayload) : (offerFlags o).getLsbD 0 = o.edecl.isSome ∧ (offerFlags o).getLsbD 1 = o.residual.isSome ∧
    (offerFlags o).getLsbD 2 = o.degraded ∧ (offerFlags o).getLsbD 3 = o.restPassed := by
  unfold offerFlags
  generalize o.edecl.isSome = e, o.residual.isSome = r, o.degraded = d, o.restPassed = p
  revert e r d p
  decide

/-- An optional three-byte field under its flag. -/
theorem optional_getD (x : Option (BitVec 24)) : (if x.isSome = true then some (x.getD 0#24) else none) = x := by cases x <;> rfl

/-- The bytes of an OFFER behind its pack ID. -/
def offerTail (o : OfferPayload) : List Byte :=
  [o.cls, o.cells, offerFlags o] ++ bytes24 (o.edecl.getD 0#24) ++ bytes32 o.qdis ++ bytes32 o.edis ++ bytes24 (o.residual.getD 0#24) ++
    [o.originBay, o.dest]

theorem offerBytes_eq (o : OfferPayload) : offerBytes o = packIdBytes o.id ++ offerTail o := by
  simp [offerBytes, offerTail, List.append_assoc]

theorem length_offerBytes {o : OfferPayload} (h : packIdWellFormed o.id = true) : (offerBytes o).length = 32 := by
  rw [offerBytes_eq, List.length_append, length_packIdBytes h]
  rfl

theorem word24_of_bytes (w : BitVec 24) :
    (w.extractLsb' 16 8 ++ ((w.extractLsb' 0 16).extractLsb' 8 8 ++ (w.extractLsb' 0 16).extractLsb' 0 8 : BitVec 16) : BitVec 24) = w := by
  rw [word16_of_bytes]
  exact high_append_low (m := 8) (n := 16) w

theorem word32_of_bytes (w : BitVec 32) :
    (w.extractLsb' 24 8 ++ ((w.extractLsb' 0 24).extractLsb' 16 8 ++ (((w.extractLsb' 0 24).extractLsb' 0 16).extractLsb' 8 8 ++
      ((w.extractLsb' 0 24).extractLsb' 0 16).extractLsb' 0 8 : BitVec 16) : BitVec 24) : BitVec 32) = w := by
  rw [word24_of_bytes]
  exact high_append_low (m := 8) (n := 24) w

theorem offerOf_offerBytes {o : OfferPayload} (h : packIdWellFormed o.id = true) : offerOf (offerBytes o) = some o := by
  have id : packIdAt (offerBytes o) 0 = o.id := by
    rw [offerBytes_eq]
    exact packIdAt_packIdBytes [] _ h
  have at_ (i : Nat) : byteAt (offerBytes o) (13 + i) = byteAt (offerTail o) i := by
    rw [offerBytes_eq, ← length_packIdBytes h, byteAt_append_right]
  have cls : byteAt (offerBytes o) 13 = o.cls := at_ 0
  have cells : byteAt (offerBytes o) 14 = o.cells := at_ 1
  have flags : byteAt (offerBytes o) 15 = offerFlags o := at_ 2
  have bay : byteAt (offerBytes o) 30 = o.originBay := at_ 17
  have dest : byteAt (offerBytes o) 31 = o.dest := at_ 18
  have edecl : word24At (offerBytes o) 16 = o.edecl.getD 0#24 := by
    unfold word24At word16At
    rw [show byteAt (offerBytes o) 16 = _ from at_ 3, show byteAt (offerBytes o) (16 + 1) = _ from at_ 4,
      show byteAt (offerBytes o) (16 + 1 + 1) = _ from at_ 5]
    exact word24_of_bytes _
  have residual : word24At (offerBytes o) 27 = o.residual.getD 0#24 := by
    unfold word24At word16At
    rw [show byteAt (offerBytes o) 27 = _ from at_ 14, show byteAt (offerBytes o) (27 + 1) = _ from at_ 15,
      show byteAt (offerBytes o) (27 + 1 + 1) = _ from at_ 16]
    exact word24_of_bytes _
  have qdis : word32At (offerBytes o) 19 = o.qdis := by
    unfold word32At word24At word16At
    rw [show byteAt (offerBytes o) 19 = _ from at_ 6, show byteAt (offerBytes o) (19 + 1) = _ from at_ 7,
      show byteAt (offerBytes o) (19 + 1 + 1) = _ from at_ 8, show byteAt (offerBytes o) (19 + 1 + 1 + 1) = _ from at_ 9]
    exact word32_of_bytes _
  have edis : word32At (offerBytes o) 23 = o.edis := by
    unfold word32At word24At word16At
    rw [show byteAt (offerBytes o) 23 = _ from at_ 10, show byteAt (offerBytes o) (23 + 1) = _ from at_ 11,
      show byteAt (offerBytes o) (23 + 1 + 1) = _ from at_ 12, show byteAt (offerBytes o) (23 + 1 + 1 + 1) = _ from at_ 13]
    exact word32_of_bytes _
  obtain ⟨f0, f1, f2, f3⟩ := offerFlags_bits o
  unfold offerOf
  rw [if_pos (length_offerBytes h), id, cls, cells, flags, bay, dest, edecl, residual, qdis, edis]
  dsimp only
  rw [f0, f1, f2, f3, optional_getD, optional_getD]

theorem byteAt_packIdBytes {id : PackId} (b : List Byte) (h : packIdWellFormed id = true) :
    (byteAt (packIdBytes id ++ b) 0).toNat = id.length := lengthByte h

theorem handoverIdOf_packIdBytes {id : PackId} (b : List Byte) (h : packIdWellFormed id = true) :
    handoverIdOf (13 + b.length) (packIdBytes id ++ b) = some id := by
  have len := length_of_packIdWellFormed h
  unfold handoverIdOf
  rw [byteAt_packIdBytes b h, List.length_append, length_packIdBytes h, if_pos ⟨rfl, len⟩]
  exact congrArg some (packIdAt_packIdBytes [] b h)

theorem handoverIdOf_packId {id : PackId} (h : packIdWellFormed id = true) : handoverIdOf 13 (packIdBytes id) = some id := by
  have := handoverIdOf_packIdBytes [] h
  rwa [List.append_nil] at this

/-! ### Frames -/

/-- The command of a payload under a kind; the frame itself where it is discarded (R183). -/
def payloadCommand (raw : List Byte) (h : Header) (p : List Byte) (kind : Nat) : Instr :=
  match kind with
  | 1 => ((statusOf p).map (Instr.status h)).getD (.frameDiscarded raw)
  | 2 =>
    if p.length = 2 then ((tripClassOf (byteAt p 0).toNat).map fun c => Instr.trip h c (byteAt p 1)).getD (.frameDiscarded raw)
    else .frameDiscarded raw
  | 3 => ((offerOf p).map (Instr.offer h)).getD (.frameDiscarded raw)
  | 4 => ((handoverIdOf 13 p).map (Instr.accept h)).getD (.frameDiscarded raw)
  | 5 =>
    match handoverIdOf 14 p, declineOf (byteAt p 13).toNat with
    | some id, some r => .decline h id r
    | _, _ => .frameDiscarded raw
  | 6 => ((handoverIdOf 13 p).map (Instr.withdraw h)).getD (.frameDiscarded raw)
  | 7 => ((handoverIdOf 13 p).map (Instr.landed h)).getD (.frameDiscarded raw)
  | 8 => requestOf h p
  | 9 => .replyReceived h p
  | _ => .frameDiscarded raw

/-- A frame as it is written passes the checks of length and check value, and is the command of its payload. -/
theorem decodeFrame_frameBytes (h : Header) (kind : Byte) {p : List Byte} (hp : p.length ≤ 48) :
    decodeFrame (frameBytes h kind p) = payloadCommand (frameBytes h kind p) h p kind.toNat := by
  have count : (byteAt (frameBytes h kind p) 5).toNat = p.length := by
    have e : byteAt (frameBytes h kind p) 5 = BitVec.ofNat 8 p.length := rfl
    rw [e, BitVec.toNat_ofNat]
    omega
  have len : (frameBytes h kind p).length = 8 + p.length := by
    simp [frameBytes, length_bytes16]
    omega
  have payload : ((frameBytes h kind p).drop 6).take p.length = p := by
    have e : (frameBytes h kind p).drop 6 = p ++ bytes16 (crc16 ([h.line, kind, h.sender, h.dest, h.seq, BitVec.ofNat 8 p.length] ++ p)) := rfl
    rw [e, List.take_left]
  have check : crc16 ((frameBytes h kind p).take ((frameBytes h kind p).length - 2)) =
      word16At (frameBytes h kind p) ((frameBytes h kind p).length - 2) := by
    have e : (frameBytes h kind p).length - 2 = ([h.line, kind, h.sender, h.dest, h.seq, BitVec.ofNat 8 p.length] ++ p).length := by
      rw [len]
      simp
      omega
    rw [e]
    have read := word16At_bytes16 ([h.line, kind, h.sender, h.dest, h.seq, BitVec.ofNat 8 p.length] ++ p) []
      (crc16 ([h.line, kind, h.sender, h.dest, h.seq, BitVec.ofNat 8 p.length] ++ p))
    rw [List.append_nil] at read
    unfold frameBytes
    rw [read, List.take_left]
  unfold decodeFrame
  rw [count, payload, if_pos ⟨len, check⟩]
  rfl

theorem length_frameBytes (h : Header) (kind : Byte) (p : List Byte) : (frameBytes h kind p).length = 8 + p.length := by
  simp [frameBytes, length_bytes16]
  omega

/-- A frame whose payload decodes to a command decodes to it, and has at most 56 bytes. -/
theorem decodes {c : Instr} {h : Header} {kind : Byte} {p : List Byte} (hp : p.length ≤ 48)
    (hc : payloadCommand (frameBytes h kind p) h p kind.toNat = c) :
    decodeFrame (frameBytes h kind p) = c ∧ (frameBytes h kind p).length ≤ 56 := by
  refine ⟨(decodeFrame_frameBytes h kind hp).trans hc, ?_⟩
  rw [length_frameBytes]
  omega

/-- The payload of a REQUEST that carries a pack ID behind one byte or two. -/
theorem requestOf_resolveLost (h : Header) {id : PackId} (hid : packIdWellFormed id = true) :
    requestOf h (5 :: packIdBytes id) = .resolveLost h id := by
  have kind : (byteAt (5 :: packIdBytes id) 0).toNat = 5 := rfl
  have len : (5 :: packIdBytes id : List Byte).length = 14 := by rw [List.length_cons, length_packIdBytes hid]
  have read := packIdAt_packIdBytes [5] [] hid
  rw [List.append_nil] at read
  unfold requestOf
  dsimp only
  rw [kind, len]
  exact congrArg (Instr.resolveLost h) read

theorem requestOf_queryPackId (h : Header) {id : PackId} (hid : packIdWellFormed id = true) :
    requestOf h ([14, 1] ++ packIdBytes id) = .queryPackId h id := by
  have kind : (byteAt ([14, 1] ++ packIdBytes id) 0).toNat = 14 := rfl
  have len : ([14, 1] ++ packIdBytes id).length = 15 := by rw [List.length_append, length_packIdBytes hid]; rfl
  have read := packIdAt_packIdBytes [14, 1] [] hid
  rw [List.append_nil] at read
  unfold requestOf
  dsimp only
  rw [kind, len]
  exact congrArg (Instr.queryPackId h) read

/-- The bytes of an ADMIT. -/
def admitBytes (bay : Byte) (id : PackId) (cls cells : Byte) (edecl : Option (BitVec 24)) : List Byte :=
  [1, bay] ++ packIdBytes id ++ [cls, cells, codeByte (flagCode edecl.isSome)] ++ bytes24 (edecl.getD 0)

theorem length_admitBytes (bay : Byte) {id : PackId} (cls cells : Byte) (edecl : Option (BitVec 24)) (hid : packIdWellFormed id = true) :
    (admitBytes bay id cls cells edecl).length = 21 := by
  unfold admitBytes
  simp only [List.length_append, length_packIdBytes hid]
  rfl

theorem requestOf_admit (h : Header) (bay : Byte) {id : PackId} (cls cells : Byte) (edecl : Option (BitVec 24))
    (hid : packIdWellFormed id = true) : requestOf h (admitBytes bay id cls cells edecl) = .admitPack h bay id cls cells edecl := by
  have kind : (byteAt (admitBytes bay id cls cells edecl) 0).toNat = 1 := rfl
  have bay_ : byteAt (admitBytes bay id cls cells edecl) 1 = bay := rfl
  have read : packIdAt (admitBytes bay id cls cells edecl) 2 = id := by
    unfold admitBytes
    rw [List.append_assoc ([1, bay] ++ packIdBytes id)]
    exact packIdAt_packIdBytes [1, bay] _ hid
  have at_ (i : Nat) : byteAt (admitBytes bay id cls cells edecl) (15 + i) =
      byteAt ([cls, cells, codeByte (flagCode edecl.isSome)] ++ bytes24 (edecl.getD 0)) i := by
    have front : ([1, bay] ++ packIdBytes id).length = 15 := by rw [List.length_append, length_packIdBytes hid]; rfl
    unfold admitBytes
    rw [List.append_assoc ([1, bay] ++ packIdBytes id), ← front, byteAt_append_right]
  have cls_ : byteAt (admitBytes bay id cls cells edecl) 15 = cls := at_ 0
  have cells_ : byteAt (admitBytes bay id cls cells edecl) 16 = cells := at_ 1
  have flag : byteAt (admitBytes bay id cls cells edecl) 17 = codeByte (flagCode edecl.isSome) := at_ 2
  have declared : word24At (admitBytes bay id cls cells edecl) 18 = edecl.getD 0#24 := by
    unfold word24At word16At
    rw [show byteAt (admitBytes bay id cls cells edecl) 18 = _ from at_ 3, show byteAt (admitBytes bay id cls cells edecl) (18 + 1) = _ from at_ 4,
      show byteAt (admitBytes bay id cls cells edecl) (18 + 1 + 1) = _ from at_ 5]
    exact word24_of_bytes _
  unfold requestOf
  dsimp only
  rw [kind, length_admitBytes bay cls cells edecl hid, bay_, read, cls_, cells_, flag, flagOf_flagCode, declared]
  dsimp only
  rw [optional_getD]
  rfl

theorem ne_255_of_bay {bay : Byte} (h : bay.toNat ≤ 3) : bay ≠ 255#8 := by
  rintro rfl
  simp at h

end Sys2Proof

open Sys2Proof

/-- Settles O60: each kind's payload is read back item by item, and the header with it. -/
theorem decodeInvertsEncode : Obligations.DecodeInvertsEncode := by
  intro c bytes hw he
  cases c <;> simp only [encodeFrame, Option.some.injEq, reduceCtorEq] at he
  all_goals subst he
  all_goals simp only [Instr.wellFormed, Bool.and_eq_true] at hw
  case status h p => exact decodes (by rw [length_statusBytes]; omega) (by simp [payloadCommand, statusOf_statusBytes])
  case trip h k x => exact decodes (Nat.le_of_ble_eq_true rfl) (by simp [payloadCommand, byteAt, tripClassOf_tripClassCode])
  case offer h o =>
    have hid : packIdWellFormed o.id = true := by
      have := hw.2
      simp only [offerWellFormed, Bool.and_eq_true] at this
      tauto
    exact decodes (by rw [length_offerBytes hid]; omega) (by simp [payloadCommand, offerOf_offerBytes hid])
  case accept h id => exact decodes (by rw [length_packIdBytes hw.2]; omega) (by simp [payloadCommand, handoverIdOf_packId hw.2])
  case withdraw h id => exact decodes (by rw [length_packIdBytes hw.2]; omega) (by simp [payloadCommand, handoverIdOf_packId hw.2])
  case landed h id => exact decodes (by rw [length_packIdBytes hw.2]; omega) (by simp [payloadCommand, handoverIdOf_packId hw.2])
  case decline h id r =>
    have reason : byteAt (packIdBytes id ++ [codeByte (declineCode r)]) 13 = codeByte (declineCode r) := by
      have := byteAt_append_right (packIdBytes id) [codeByte (declineCode r)] 0
      rwa [length_packIdBytes hw.2] at this
    have read : handoverIdOf 14 (packIdBytes id ++ [codeByte (declineCode r)]) = some id := handoverIdOf_packIdBytes _ hw.2
    exact decodes (by rw [List.length_append, length_packIdBytes hw.2]; exact Nat.le_of_ble_eq_true rfl)
      (by simp [payloadCommand, read, reason, declineOf_declineCode])
  case replyReceived h p => exact decodes (by simpa using hw.2) rfl
  case admitPack h bay id cls cells e =>
    have hid : packIdWellFormed id = true := by tauto
    exact decodes (p := admitBytes bay id cls cells e) (by rw [length_admitBytes _ _ _ _ hid]; omega) (requestOf_admit h bay cls cells e hid)
  case resolveLost h id =>
    exact decodes (by rw [List.length_cons, length_packIdBytes hw.2]; omega) (requestOf_resolveLost h hw.2)
  case queryPackId h id =>
    exact decodes (by rw [List.length_append, length_packIdBytes hw.2]; exact Nat.le_of_ble_eq_true rfl) (requestOf_queryPackId h hw.2)
  case clearBay h bay =>
    refine decodes (Nat.le_of_ble_eq_true rfl) ?_
    have e : requestOf h [4, bay] = if bay = 255#8 then .clearChute h else .clearBay h bay := rfl
    exact e.trans (if_neg (ne_255_of_bay (of_decide_eq_true hw.2)))
  case inhibit h row seconds =>
    exact decodes (Nat.le_of_ble_eq_true rfl) (congrArg (Instr.inhibit h row) (word16_of_bytes seconds))
  case queryLog h n => exact decodes (Nat.le_of_ble_eq_true rfl) (congrArg (Instr.queryLog h) (word16_of_bytes n))
  all_goals exact decodes (Nat.le_of_ble_eq_true rfl) rfl

end

section
/-! SUPPORT. Steps, cold reset, intake and the end of the load; settles O1, O2, O3, O49, O50 and O59. -/

namespace Sys2Proof.Machine

variable {c : Instr} {s t u : State}

/-! ### Reset values (R195) -/

theorem reset_bay (b : BayIdx) : State.reset.meas[b] = bayMeasureReset ∧ State.reset.bays[b] = bayReset ∧
    State.reset.handover[b] = { entry := .none, lastDecline := none, claim := false } := by
  simp [State.reset]

theorem reset_row (r : Row) : rowState State.reset r = rowReset := by simp [rowState, State.reset]

theorem reset_detector (n : Fin 4) : State.reset.zmeas.d[n] = comparatorReset ∧ State.reset.fire.held[n] = false ∧
    State.reset.fire.det[n] = detectorReset := by
  simp [State.reset, zoneMeasureReset]

/-! ### Hearing and intake (R183, R184, R190) -/

theorem inService_iff (s : State) : inService s = true ↔ s.loader.mode = .operating ∨ s.loader.mode = .maintenance := by simp [inService]

theorem heardBroadcast_iff (s : State) (h : Header) : heardBroadcast s h = true ↔
    ((s.loader.mode = .operating ∨ s.loader.mode = .maintenance) ∧ h.line = s.loader.lineId ∧ h.sender ≠ 0 ∧ h.sender ≠ 63 ∧
      h.sender ≠ s.loader.address) ∧ h.dest = 63 := by
  have all : (broadcast : Addr) = 63 := rfl
  unfold heardBroadcast headerHeard
  simp only [Bool.and_eq_true, decide_eq_true_iff, inService_iff, all]
  tauto

theorem heardOwn_iff (s : State) (h : Header) : heardOwn s h = true ↔
    ((s.loader.mode = .operating ∨ s.loader.mode = .maintenance) ∧ h.line = s.loader.lineId ∧ h.sender ≠ 0 ∧ h.sender ≠ 63 ∧
      h.sender ≠ s.loader.address) ∧ h.dest = s.loader.address ∧ h.dest ≠ 63 := by
  have all : (broadcast : Addr) = 63 := rfl
  unfold heardOwn headerHeard
  simp only [Bool.and_eq_true, decide_eq_true_iff, inService_iff, all]
  tauto

theorem requestTaken_iff (s : State) (h : Header) : requestTaken s h = true ↔
    heardOwn s h = true ∧ h.sender.toNat ∈ (cfg s).terminals ∧ s.bus.replies.length < 4 := by
  unfold requestTaken isTerminal replyFree
  rw [Bool.and_eq_true, Bool.and_eq_true, decide_eq_true_iff, decide_eq_true_iff, and_assoc]
  rfl

theorem queueReply_replies (s : State) (r : Reply) : (queueReply s r).bus.replies = s.bus.replies ++ [r] := rfl

/-- A request with a header is the RESTART of no other header. -/
theorem restart_header {h : Header} (hh : headerOf c = some h) (hr : c ≠ .restart h) (x : Header) : c ≠ .restart x := by
  rintro rfl
  cases hh
  exact hr rfl

theorem restart_taken (h : Header) (s : State) :
    (heardOwn s h = false → exec (.restart h) s = .next s) ∧
    (heardOwn s h = true →
      (isTerminal s h.sender = false → s.bus.replies.length < 4 →
        exec (.restart h) s =
          .next (queueReply s { dest := h.sender, kind := 18, seq := h.seq, result := .notTerminal, payload := .none })) ∧
      (4 ≤ s.bus.replies.length → exec (.restart h) s = .next s) ∧
      (isTerminal s h.sender = true → s.bus.replies.length < 4 → Instr.restart h ≠ .restart h →
        ∃ t result payload, exec (.restart h) s = .next t ∧
          t.bus.replies = s.bus.replies ++ [{ dest := h.sender, kind := 18, seq := h.seq, result := result, payload := payload }])) := by
  refine ⟨fun hd => by simp [exec, execRestart, hd], fun hd => ⟨fun ht hf => ?_, fun hf => ?_, fun _ _ hr => absurd rfl hr⟩⟩
  · have room : replyFree s = true := decide_eq_true hf
    simp [exec, execRestart, takeRestart, hd, ht, room, replyTo]
  · have full : replyFree s = false := decide_eq_false (Nat.not_lt.2 hf)
    simp [exec, execRestart, takeRestart, hd, full]

/-! ### Discarding out of service -/

theorem whenServing_of_not_inService (h : inService s = false) (f : State → State) : whenServing s f = .next s := by
  simp [whenServing, h]

theorem heardOwn_of_not_inService (h : inService s = false) (hd : Header) : heardOwn s hd = false := by simp [heardOwn, h]

end Sys2Proof.Machine

open Sys2Proof Sys2Proof.Machine

/-- Settles O1: step by its definition. -/
theorem stepRunsFront : Obligations.StepRunsFront := by
  intro c rest s h
  unfold step
  rw [h]

/-- Settles O2: the reset state, field by field. -/
theorem coldResetLeavesResetValues : Obligations.ColdResetLeavesResetValues := by
  refine ⟨fun pins s => rfl, rfl, rfl, rfl, rfl, rfl, rfl, rfl, rfl, rfl, fun b => ?_, ?_, fun n => ?_, rfl, rfl, rfl, fun n => ?_, rfl, rfl,
    rfl, rfl, rfl, rfl, ⟨rfl, rfl, rfl, rfl⟩, fun x => reset_row x, rfl, rfl, rfl, rfl, rfl, fun d => ?_, fun p => ?_, rfl⟩
  · obtain ⟨hm, hb, hh⟩ := reset_bay b
    rw [hm, hb, hh]
    exact ⟨⟨rfl, rfl, rfl⟩, ⟨rfl, rfl, rfl, rfl, rfl, rfl, rfl, rfl, rfl⟩, rfl, rfl, rfl, rfl⟩
  · exact ⟨rfl, rfl, rfl, rfl, rfl, rfl, rfl, rfl, rfl, rfl, rfl, rfl, rfl⟩
  · exact reset_detector n
  · simp [State.reset, zoneMeasureReset, comparatorReset]
  · simp [State.reset, timerReset]
  · simp [State.reset, peerReset]

/-- Settles O59: what the steps keep holds of the state that a COLD_RESET leaves, which is the reset state but for the pins. -/
theorem resetHasTheInvariants : Obligations.ResetHasTheInvariants := by
  have cold : coldState 0 State.reset = State.reset := rfl
  have h := coldState_storesSound 0 State.reset
  rw [cold] at h
  refine ⟨rfl, runsClear_of_not_running nofun, cold ▸ coldState_placesSound 0 State.reset, cold ▸ coldState_queueSound 0 State.reset,
    h.1, h.2.1, h.2.2, cold ▸ coldState_timersSound 0 State.reset, fun _ => ⟨rfl, rfl, rfl, rfl⟩,
    cold ▸ coldState_outputsSound 0 State.reset, cold ▸ coldState_selfClearing 0 State.reset⟩

/-- Settles O49: out of service no arrival acts and no frame is heard. -/
theorem nothingIsTakenOutOfService : Obligations.NothingIsTakenOutOfService := by
  intro c s hs hc
  have own (h : Header) : heardOwn s h = false := heardOwn_of_not_inService hs h
  have all (h : Header) : heardBroadcast s h = false := by simp [heardBroadcast, hs]
  have request {h : Header} {kind : Byte} (hh : headerOf c = some h) (hk : requestKind c = some kind) (hr : c ≠ .restart h) :
      exec c s = .next s := (exec_request hh hk hr s).trans (request_of_not_inService hs kind _)
  cases c with
  | zoneArrival o2a o2b h1 h2 => simp [exec, execZoneArrival, whenServing, hs]
  | discreteArrival levels => simp [exec, execDiscreteArrival, whenServing, hs]
  | pairArrival | tbArrival | spArrival | secondBoundary => exact whenServing_of_not_inService hs _
  | status h p => simp [exec, execStatus, all]
  | trip h k x => simp [exec, execTrip, all]
  | offer h o => simp [exec, execOffer, own]
  | accept h id => simp [exec, execAccept, own]
  | decline h id r => simp [exec, execDecline, own]
  | withdraw h id => simp [exec, execWithdraw, own]
  | landed h id => simp [exec, execLanded, own]
  | replyReceived h p => rfl
  | restart h => simp [exec, execRestart, own]
  | requestMalformed | admitPack | start | reject | clearBay | clearChute | resolveLost | zoneStart | zoneStop | run | halt | ack | reset
  | maintOn | maintOff | inhibit | queryPackId | queryPackBay | queryPackPosition | queryCauses | queryLog | queryCounts =>
    exact request rfl rfl nofun
  | _ => exact hc.elim nofun fun h => absurd rfl h

/-- Settles O50: request intake by its branches, the REPLY of a request by what its carrying out leaves of the FIFO, and when a frame is
heard. -/
theorem requestsAreTakenIn : Obligations.RequestsAreTakenIn := by
  refine ⟨fun h s => ⟨heardBroadcast_iff s h, heardOwn_iff s h, requestTaken_iff s h⟩, fun c h kind s hh hk => ?_,
    fun h kind s hr => request_refuses hr rfl⟩
  by_cases hr : c = .restart h
  · subst hr
    cases hk
    exact restart_taken h s
  · have e := exec_request hh hk hr s
    refine ⟨fun hd => by rw [e, request_of_not_heard hd], fun hd => ⟨fun ht hf => ?_, fun hf => ?_, fun ht hf _ => ?_⟩⟩
    · rw [e, request_of_stranger hd ht (decide_eq_true hf)]
      rfl
    · rw [e, request_of_full (decide_eq_false (Nat.not_lt.2 hf))]
    · have taken : requestTaken s h = true := by simp [requestTaken, hd, ht, replyFree, Config.replySize, hf]
      have kept := (requestAnswer_ran (c := c) (inService_of_heardOwn hd) (by rw [hk]; nofun) (restart_header hh hr)).replies
      refine ⟨_, (requestAnswer c s).result, (requestAnswer c s).payload, e.trans (request_of_taken taken _ _), ?_⟩
      rw [queueReply_replies, kept]
      rfl

end

section
/-! SUPPORT. The checks of a configuration image, and the end of its load; settles O3 and O4. -/

namespace Sys2Proof.Machine

variable {c : Instr} {s t u : State}

/-! ### Ranges of an image (R199) -/

theorem within_iff (lo hi n : Nat) : within lo hi n = true ↔ lo ≤ n ∧ n ≤ hi := by simp [within]

theorem thresholdOk_iff (t : Int) : thresholdOk t = true ↔ -400 ≤ t ∧ t ≤ 2000 := by simp [thresholdOk]

theorem lineFieldsOk_iff (i : ImageBody) : lineFieldsOk i = true ↔ LineFieldsInRange i := by
  simp only [lineFieldsOk, LineFieldsInRange, Bool.and_eq_true, within_iff, List.all_eq_true, decide_eq_true_eq, List.mem_cons,
    List.not_mem_nil, or_false, forall_eq_or_imp, forall_eq, Nat.zero_le, true_and, and_assoc]

theorem baysOk_iff (i : ImageBody) : baysOk i = true ↔
    ∀ b < i.bayCount, ∃ c, i.bays[b]? = some c ∧ c.section_ ≤ 7 ∧ 1 ≤ c.dest ∧ c.dest ≤ 62 := by
  simp only [baysOk, Bool.and_eq_true, decide_eq_true_eq, List.all_eq_true, within_iff, Nat.zero_le, true_and]
  constructor
  · rintro ⟨hlen, hall⟩ b hb
    have hb' : b < i.bays.length := hb.trans_le hlen
    exact ⟨i.bays[b], List.getElem?_eq_getElem hb', hall _ (List.mem_take_iff_getElem.2 ⟨b, by omega, rfl⟩)⟩
  · intro h
    refine ⟨?_, fun x hx => ?_⟩
    · by_contra k
      obtain ⟨c, hc, -⟩ := h i.bays.length (by omega)
      simp at hc
    · obtain ⟨b, hb, rfl⟩ := List.mem_take_iff_getElem.1 hx
      obtain ⟨c, hc, hr⟩ := h b (by omega)
      rw [List.getElem?_eq_getElem (by omega), Option.some.injEq] at hc
      rw [hc]
      exact hr

theorem classes_iff (i : ImageBody) : i.classes.toList.all classOk = true ↔
    ∀ k : Fin 4, (1 ≤ i.classes[k].vendCell ∧ i.classes[k].vendCell ≤ 5000) ∧
      (1 ≤ i.classes[k].vrelCell ∧ i.classes[k].vrelCell ≤ 5000) ∧ 1 ≤ i.classes[k].iend ∧ i.classes[k].iend ≤ 32767 := by
  have each (x : ClassConfig) : classOk x = true ↔
      (1 ≤ x.vendCell ∧ x.vendCell ≤ 5000) ∧ (1 ≤ x.vrelCell ∧ x.vrelCell ≤ 5000) ∧ 1 ≤ x.iend ∧ x.iend ≤ 32767 := by
    simp only [classOk, Bool.and_eq_true, within_iff, and_assoc]
  simp only [List.all_eq_true, ← each]
  constructor
  · intro h k
    exact h _ (Vector.mem_toList_iff.2 (Vector.getElem_mem k.isLt))
  · intro h x hx
    obtain ⟨k, hk, rfl⟩ := Vector.mem_iff_getElem.1 (Vector.mem_toList_iff.1 hx)
    exact h ⟨k, hk⟩

theorem bayFieldsOk_iff (i : ImageBody) : bayFieldsOk i = true ↔ BayFieldsInRange i := by
  simp only [bayFieldsOk, BayFieldsInRange, Bool.and_eq_true, within_iff, thresholdOk_iff, baysOk_iff, classes_iff, Nat.zero_le, true_and,
    and_assoc]

theorem zoneOk_iff (z : ZoneConfig) : zoneOk z = true ↔
    z.section_ ≤ 7 ∧ z.o2inert ≤ 2500 ∧ z.o2top ≤ 2500 ∧ z.o2warn ≤ 2500 ∧ (10 ≤ z.tol ∧ z.tol ≤ 500) ∧
      (60 ≤ z.purgeLimit ∧ z.purgeLimit ≤ 3600) ∧ (10 ≤ z.settle ∧ z.settle ≤ 600) ∧ (10 ≤ z.flood ∧ z.flood ≤ 600) ∧
      (5 ≤ z.feedLimit ∧ z.feedLimit ≤ 300) ∧ z.acceptLimit ≤ 1000000 := by
  simp only [zoneOk, Bool.and_eq_true, within_iff, Nat.zero_le, true_and, and_assoc]

theorem zoneFieldsOk_iff (i : ImageBody) : zoneFieldsOk i = true ↔ ZoneFieldsInRange i := by
  have present : (within 0 1 i.zonePresent = true ∧ (i.zonePresent = 0 ∨ (i.zone.map zoneOk).getD false = true)) ↔
      (i.zonePresent = 0 ∨ i.zonePresent = 1 ∧ ∃ z, i.zone = some z ∧ zoneOk z = true) := by
    rw [within_iff]
    cases i.zone with
    | none =>
      simp only [Option.map_none, Option.getD_none, Bool.false_eq_true, or_false, reduceCtorEq, false_and, exists_false, and_false]
      omega
    | some z =>
      simp only [Option.map_some, Option.getD_some, Option.some.injEq, exists_eq_left']
      generalize zoneOk z = ok
      cases ok
      · simp only [Bool.false_eq_true, or_false, and_false]
        omega
      · simp only [or_true, and_true]
        omega
  unfold zoneFieldsOk ZoneFieldsInRange
  simp only [Bool.and_eq_true, Bool.or_eq_true, decide_eq_true_eq, ← and_assoc]
  rw [present]
  simp only [zoneOk_iff, within_iff, thresholdOk_iff, and_assoc]

theorem literalFormed_iff (l : Literal) : literalFormed l = true ↔ LiteralInRange l := by
  obtain ⟨kind, index, positive⟩ := l
  cases kind with
  | none => simp [literalFormed, LiteralInRange, peerKind]
  | some k => cases k <;> cases index <;> simp [literalFormed, literalLimit, LiteralInRange, peerKind]

theorem termOk_iff (i : ImageBody) (t : SiteTerm) : termOk i t = true ↔
    t.permit ≠ none ∧ (i.siteTerms.filter fun u => decide (u.permit = t.permit)).length ≤ 3 ∧ 1 ≤ t.literals.length ∧
      t.literals.length ≤ 4 ∧ ∀ l ∈ t.literals, LiteralInRange l := by
  have few : decide (termCount i t.permit ≤ 3) = true ↔ (i.siteTerms.filter fun u => decide (u.permit = t.permit)).length ≤ 3 :=
    decide_eq_true_iff
  simp only [termOk, Bool.and_eq_true, few, within_iff, List.all_eq_true, literalFormed_iff, Option.isSome_iff_ne_none, and_assoc]

theorem permitFieldsOk_iff (i : ImageBody) : permitFieldsOk i = true ↔ PermitFieldsInRange i := by
  simp only [permitFieldsOk, PermitFieldsInRange, Bool.and_eq_true, within_iff, List.all_eq_true, timerOk, termOk_iff,
    literalFormed_iff, Nat.zero_le, true_and, and_assoc]

theorem rangesOk_iff (i : ImageBody) : rangesOk i = true ↔
    LineFieldsInRange i ∧ BayFieldsInRange i ∧ ZoneFieldsInRange i ∧ PermitFieldsInRange i := by
  simp only [rangesOk, Bool.and_eq_true, lineFieldsOk_iff, bayFieldsOk_iff, zoneFieldsOk_iff, permitFieldsOk_iff, and_assoc]

theorem periodOf_eq_some_iff (code : Nat) (p : Period) :
    periodOf code = some p ↔ code = 1 ∧ p = .p50 ∨ code = 2 ∧ p = .p100 ∨ code = 3 ∧ p = .p200 := by
  unfold periodOf
  split <;> cases p <;> simp_all

theorem decodedImage_iff (fields : ImageFields) (i : Image) : decodedImage fields = some i ↔
    fields.lineId = some i.lineId ∧ 1 ≤ i.lineId ∧ i.lineId ≤ 255 ∧
      (∃ code, fields.periodCode = some code ∧
        (code = 1 ∧ i.period = .p50 ∨ code = 2 ∧ i.period = .p100 ∨ code = 3 ∧ i.period = .p200)) ∧
      fields.body = some i.body ∧ LineFieldsInRange i.body ∧ BayFieldsInRange i.body ∧ ZoneFieldsInRange i.body ∧
      PermitFieldsInRange i.body := by
  simp only [← rangesOk_iff, ← periodOf_eq_some_iff, ← Option.bind_eq_some_iff]
  obtain ⟨line, period, body⟩ := i
  unfold decodedImage
  constructor
  · intro h
    split at h
    · rename_i l p b hl hp hb
      split at h
      · rename_i ok
        cases h
        rw [Bool.and_eq_true, within_iff] at ok
        exact ⟨hl, ok.1.1, ok.1.2, hp, hb, ok.2⟩
      · cases h
    · cases h
  · rintro ⟨hl, h1, h2, hp, hb, hr⟩
    rw [hl, hp, hb]
    exact if_pos (by rw [Bool.and_eq_true, within_iff]; exact ⟨⟨h1, h2⟩, hr⟩)

/-! ### The checks from 5 onward (R198) -/

theorem orderingsOk_iff (i : ImageBody) : orderingsOk i = true ↔
    (∀ k : Fin 4, i.classes[k].vendCell < i.classes[k].vrelCell) ∧
      (∀ z, i.zonePresent = 1 → i.zone = some z → z.o2inert < z.o2top ∧ z.o2top < z.o2warn ∧ z.o2warn ≤ 2100) ∧ i.swarn < i.sfire := by
  have classes : i.classes.toList.all (fun c => decide (c.vendCell < c.vrelCell)) = true ↔
      ∀ k : Fin 4, i.classes[k].vendCell < i.classes[k].vrelCell := by
    simp only [List.all_eq_true, decide_eq_true_eq]
    constructor
    · intro h k
      exact h _ (Vector.mem_toList_iff.2 (Vector.getElem_mem k.isLt))
    · intro h x hx
      obtain ⟨k, hk, rfl⟩ := Vector.mem_iff_getElem.1 (Vector.mem_toList_iff.1 hx)
      exact h ⟨k, hk⟩
  have zone : (imageZone i).all (fun z => decide (z.o2inert < z.o2top ∧ z.o2top < z.o2warn ∧ z.o2warn ≤ 2100)) = true ↔
      ∀ z, i.zonePresent = 1 → i.zone = some z → z.o2inert < z.o2top ∧ z.o2top < z.o2warn ∧ z.o2warn ≤ 2100 := by
    unfold imageZone
    split
    · simp [*, Option.all_eq_true]
    · simp [*]
  simp only [orderingsOk, Bool.and_eq_true, classes, zone, decide_eq_true_eq, and_assoc]

theorem nodup_iff_getElem? {α β : Type} (l : List α) (f : α → β) :
    (l.map f).Nodup ↔ ∀ j k : Nat, j < k → ∀ a b, l[j]? = some a → l[k]? = some b → f a ≠ f b := by
  rw [List.Nodup, List.pairwise_map, List.pairwise_iff_getElem]
  constructor
  · intro h j k hjk a b ha hb
    obtain ⟨hj, rfl⟩ := List.getElem?_eq_some_iff.1 ha
    obtain ⟨hk, rfl⟩ := List.getElem?_eq_some_iff.1 hb
    exact h j k hj hk hjk
  · intro h j k hj hk hjk
    exact h j k hjk _ _ (List.getElem?_eq_getElem hj) (List.getElem?_eq_getElem hk)

theorem addressesOk_iff (own : Nat) (i : ImageBody) : addressesOk own i = true ↔
    own ≠ 0 ∧ own ≠ 63 ∧ own ∉ i.watched ∧ own ∉ i.terminals ∧
      ∀ j k : Nat, j < k → ∀ a, i.watched[j]? = some a → i.watched[k]? ≠ some a := by
  have distinct : i.watched.Nodup ↔ ∀ j k : Nat, j < k → ∀ a, i.watched[j]? = some a → i.watched[k]? ≠ some a := by
    have h := nodup_iff_getElem? i.watched id
    rw [List.map_id] at h
    rw [h]
    exact ⟨fun k m n hmn a ha hb => k m n hmn a a ha hb rfl, fun k m n hmn a b ha hb e => k m n hmn a ha (by rw [hb]; exact congrArg some e.symm)⟩
  simp only [addressesOk, Bool.and_eq_true, decide_eq_true_eq, distinct, and_assoc]

theorem destinationsOk_iff (own : Nat) (i : ImageBody) : destinationsOk own i = true ↔
    ∀ b ∈ i.bays.take i.bayCount, (b.dest = own → i.zonePresent = 1) ∧ (b.dest ≠ own → b.dest ∈ i.watched) := by
  simp only [destinationsOk, List.all_eq_true]
  refine forall₂_congr fun b _ => ?_
  split <;> simp [*]

theorem timersOnce_iff (i : ImageBody) : timersOnce i = true ↔
    ∀ j k : Nat, j < k → ∀ t u, i.timers[j]? = some t → i.timers[k]? = some u → t.number ≠ u.number := by
  rw [timersOnce, decide_eq_true_iff]
  exact nodup_iff_getElem? i.timers TimerDef.number

theorem timersNotSelf_iff (i : ImageBody) : timersNotSelf i = true ↔
    ∀ t ∈ i.timers, ¬(t.input.kind = some .dwell ∧ t.input.index = some t.number) := by
  simp only [timersNotSelf, List.all_eq_true, Bool.not_eq_true', decide_eq_false_iff_not]

theorem literalNamed_iff (i : ImageBody) (l : Literal) : literalNamed i l = true ↔
    (peerKind l.kind = true → l.index.getD 0 < i.watched.length) ∧
      (l.kind = some .dwell → ∃ t ∈ i.timers, t.number = l.index.getD 0) ∧
      (l.kind = some .bayDischarging ∨ l.kind = some .baySafe → l.index.getD 0 < i.bayCount) := by
  obtain ⟨kind, index, positive⟩ := l
  cases kind with
  | none => simp [literalNamed, peerKind]
  | some k => cases k <;> simp [literalNamed, peerKind]

theorem literalsOk_iff (i : ImageBody) : literalsOk i = true ↔
    ∀ l : Literal, (∃ t ∈ i.timers, t.input = l) ∨ (∃ t ∈ i.siteTerms, l ∈ t.literals) →
      (peerKind l.kind = true → l.index.getD 0 < i.watched.length) ∧
      (l.kind = some .dwell → ∃ t ∈ i.timers, t.number = l.index.getD 0) ∧
      (l.kind = some .bayDischarging ∨ l.kind = some .baySafe → l.index.getD 0 < i.bayCount) := by
  simp only [← literalNamed_iff]
  simp only [literalsOk, Bool.and_eq_true, List.all_eq_true]
  constructor
  · rintro ⟨ht, hs⟩ l (⟨t, hm, rfl⟩ | ⟨t, hm, hl⟩)
    · exact ht t hm
    · exact hs t hm l hl
  · exact fun h => ⟨fun t hm => h _ (.inl ⟨t, hm, rfl⟩), fun t hm l hl => h l (.inr ⟨t, hm, hl⟩)⟩

/-- Five classes, each once and none FIRE, are the five others in some order. -/
theorem rankingOk_iff (i : ImageBody) :
    rankingOk i = true ↔ i.ranking.toList.Perm [.atmosphere, .thermal, .electrical, .line, .account] := by
  rw [rankingOk, decide_eq_true_iff]
  constructor
  · rintro ⟨nodup, fire⟩
    refine (List.subperm_of_subset nodup fun x hx => ?_).perm_of_length_le (by simp)
    cases x with
    | fire => exact absurd hx fire
    | _ => simp
  · intro h
    refine ⟨h.nodup_iff.2 (by decide), fun hm => ?_⟩
    have := h.mem_iff.1 hm
    revert this
    decide

/-! ### The code of a load -/

theorem validate_of_unread {own : Nat} {memory : List Byte} {fields : ImageFields} (h : readCompletes memory = false) :
    validate own memory fields = 1 := by simp [validate, h]

/-- Check 4 on an image that was read whole. -/
theorem validate_of_undecoded {own : Nat} {memory : List Byte} {fields : ImageFields} (h1 : readCompletes memory = true)
    (h2 : checkValueOk memory = true) (h3 : formatOk memory = true) (hd : decodedImage fields = none) : validate own memory fields = 4 := by
  simp [validate, h1, h2, h3, hd]

/-- Checks 5 to 11 on an image whose fields are in range. -/
theorem validate_of_decoded {own : Nat} {memory : List Byte} {fields : ImageFields} {i : Image} (h1 : readCompletes memory = true)
    (h2 : checkValueOk memory = true) (h3 : formatOk memory = true) (hd : decodedImage fields = some i) :
    validate own memory fields = judgeImage own i.body := by
  simp [validate, h1, h2, h3, hd]

theorem judgeImage_eq (own : Nat) (i : ImageBody) : judgeImage own i =
    if orderingsOk i = false then 5 else if addressesOk own i = false then 6 else if destinationsOk own i = false then 7
    else if timersOnce i = false then 8 else if timersNotSelf i = false then 9 else if literalsOk i = false then 10
    else if rankingOk i = false then 11 else 0 := by
  simp only [judgeImage, Bool.not_eq_true']

/-! ### The end of the load (R200 to R202) -/

theorem enterOperating_eq (s : State) (i : Image) : enterOperating s i =
    { s with
      loader := { s.loader with
        mode := .operating, image := some i, lineId := BitVec.ofNat 8 i.lineId, period := i.period, faultCode := 0 }
      zone := { s.zone with since := s.now / 20 }
      startUntil := some (s.now + 4 * Config.period i.period)
      bus := { s.bus with statusPending := true, watchUntil := some (s.now + 2 * Config.period i.period) } } := rfl

theorem exec_loadEnd (memory : List Byte) (fields : ImageFields) (hm : s.loader.mode = .starting) :
    exec (.loadEnd memory fields) s = .next (endLoad s memory fields) := by
  simp [exec, execLoadEnd, hm]

/-- A load that fails a check ends in CONFIG_FAULT with the check's code, whether or not the fields decode. -/
theorem endLoad_of_failed {memory : List Byte} {fields : ImageFields} (h : validate s.loader.address.toNat memory fields ≠ 0) :
    endLoad s memory fields = enterConfigFault s (validate s.loader.address.toNat memory fields) fields := by
  unfold endLoad
  dsimp only
  split
  · rw [if_neg h]
  · rfl

theorem faultLine_of_read {code : Fin 12} {fields : ImageFields} {l : Nat} (hl : fields.lineId = some l) :
    faultLine code fields = if code ≠ 1 ∧ 1 ≤ l ∧ l ≤ 255 then BitVec.ofNat 8 l else 0 := by
  simp only [faultLine, hl, within_iff]

end Sys2Proof.Machine

open Sys2Proof Sys2Proof.Machine

/-- Settles O3: the image taken up, and then the reactions of that event. -/
theorem loadEndEntersOperating : Obligations.LoadEndEntersOperating := by
  intro memory fields i s hm hd hv
  rw [← enterOperating_eq]
  refine ⟨?_, frame_settle _⟩
  rw [exec_loadEnd memory fields hm]
  unfold endLoad
  rw [hd]
  exact congrArg _ (if_pos hv)

/-- Settles O4: a failing load in CONFIG_FAULT, and each check of R198 as what R198 and R199 name. -/
theorem loadEndEntersConfigFault : Obligations.LoadEndEntersConfigFault := by
  refine ⟨fun memory fields s hm hv => ?_, fun own memory fields => ?_, fun memory => ?_, decodedImage_iff, fun own i => ?_⟩
  · refine ⟨_, (exec_loadEnd memory fields hm).trans (congrArg _ (endLoad_of_failed hv)), rfl, rfl, rfl, rfl, ?_, ?_, ?_, ?_, ?_, ?_, rfl, rfl⟩
    · intro l hl h1 h2 hc
      exact (faultLine_of_read hl).trans (if_pos ⟨hc, h1, h2⟩)
    · intro l hl hout
      exact (faultLine_of_read hl).trans (if_neg (by omega))
    · intro hl
      show faultLine _ fields = 0
      simp [faultLine, hl]
    · intro hc
      have hc' : validate s.loader.address.toNat memory fields = 1 := hc
      show faultLine (validate s.loader.address.toNat memory fields) fields = 0
      cases hl : fields.lineId with
      | none => simp [faultLine, hl]
      | some l => rw [faultLine_of_read hl, hc', if_neg (by simp)]
    · intro p hp
      show faultPeriod fields = p
      simp [faultPeriod, hp]
    · intro hp
      show faultPeriod fields = .p200
      simp [faultPeriod, hp]
  · refine ⟨validate_of_unread, fun h1 h2 => ?_, fun h1 h2 h3 => ?_, fun h1 h2 h3 hd => ?_, fun i h1 h2 h3 hd => ?_⟩
    · simp [validate, h1, h2]
    · simp [validate, h1, h2, h3]
    · exact validate_of_undecoded h1 h2 h3 hd
    · exact (validate_of_decoded h1 h2 h3 hd).trans (judgeImage_eq own i.body)
  · exact ⟨decide_eq_true_iff, beq_iff_eq, beq_iff_eq⟩
  · exact ⟨orderingsOk_iff i, addressesOk_iff own i, destinationsOk_iff own i, timersOnce_iff i, timersNotSelf_iff i, literalsOk_iff i,
      rankingOk_iff i⟩

end

section
/-! SUPPORT. The warm reset: what RESTART writes, and what expires when the node leaves it; settles O5 and O6. -/

namespace Sys2Proof.Machine

variable {c : Instr} {s t u : State}

/-! ### Timers that have run -/

theorem due_iff (s : State) (x : Option Nat) : due s x = true ↔ ∃ u, x = some u ∧ u ≤ s.now := by
  cases x <;> simp [due]

theorem due_of_some {x : Option Nat} {u : Nat} (h : x = some u) (hu : u ≤ s.now) : due s x = true := (due_iff s x).2 ⟨u, h, hu⟩

theorem due_of_early {x : Option Nat} (h : ∀ u, x = some u → s.now < u) : due s x = false := by
  rw [← Bool.not_eq_true, due_iff]
  rintro ⟨u, hu, hle⟩
  have := h u hu
  omega

theorem dueCount_iff (s : State) (x : Option Nat) : dueCount s x = true ↔ ∃ u, x = some u ∧ u ≤ nodeCount s := by
  cases x <;> simp [dueCount]

/-! ### RESTART (R193) -/

theorem exec_restart {h : Header} (hr : requestTaken s h = true) : exec (.restart h) s = .next (enterWarmReset s h.sender h.seq) := by
  unfold requestTaken at hr
  simp only [Bool.and_eq_true] at hr
  simp [exec, execRestart, takeRestart, hr.1.1, hr.1.2, hr.2]

theorem openingRuns_iff (w : ContactorWindow) : openingRuns w = true ↔ ∃ u, w = .opening u := by cases w <;> simp [openingRuns]

theorem warmZone_of_working (h : s.zone.state ≠ .air ∧ s.zone.state ≠ .fire ∧ s.zone.state ≠ .lockout) : warmZone s = enterAir s := by
  obtain ⟨h1, h2, h3⟩ := h
  unfold warmZone
  split
  iterate 5 rfl
  · exact absurd ‹_› h1
  · exact absurd ‹_› h2
  · exact absurd ‹_› h3

theorem enterAir_zone (hz : s.zone.state ≠ .air) : (enterAir s).zone =
    { s.zone with
      state := .air, since := s.now / 20, purgeUntil := none, settleUntil := none, floodUntil := none, topUp := false, fpUntil := none } := by
  simp [enterAir, stopAtmosphere, setZone, updZone, hz, nodeCount, Config.count]

theorem enterWarmReset_bay (s : State) (a : Addr) (q : Byte) (b : BayIdx) : (enterWarmReset s a q).bays[b] = warmBay s b s.bays[b] := by
  simp [enterWarmReset]

theorem enterWarmReset_handover (s : State) (a : Addr) (q : Byte) (b : BayIdx) :
    (enterWarmReset s a q).handover[b] = { s.handover[b] with entry := .none } := by simp [enterWarmReset]

theorem enterWarmReset_meas (s : State) (a : Addr) (q : Byte) (b : BayIdx) : (enterWarmReset s a q).meas[b] = warmMeasure s b := by
  simp [enterWarmReset]

theorem enterWarmReset_now (s : State) (a : Addr) (q : Byte) : (enterWarmReset s a q).now = s.now := by
  have e : (enterWarmReset s a q).now = (warmZone s).now := rfl
  rw [e, warmZone_eq]

theorem enterWarmReset_causes (s : State) (a : Addr) (q : Byte) : (enterWarmReset s a q).causes = (endInhibits s).causes := by
  have e : (enterWarmReset s a q).causes = (endInhibits (warmZone s)).causes := rfl
  rw [e, warmZone_eq]
  rfl

/-- What a bay controller keeps and drops at a warm reset (R25, R48). -/
theorem warmBay_window (s : State) (b : BayIdx) (x : Bay) : (warmBay s b x).window =
    if coilOn s b = true ∨ openingRuns x.window = true then .opening (s.now + 400) else .none := by
  simp [warmBay, Config.contactorWindow]

/-! ### Leaving the warm reset (R193) -/

theorem exec_warmResetEnd {r : Restarting} (hm : s.loader.mode = .warmReset) (hr : s.loader.restart = some r) :
    exec .warmResetEnd s = .next (if r.endAt ≤ s.now then leaveWarmReset s r else s) := by
  simp [exec, execWarmResetEnd, hm, hr]

theorem backInService_eq (s : State) (r : Restarting) : backInService s r =
    { s with
      loader := { s.loader with mode := .operating, restart := none }
      startUntil := some (s.now + 4 * Config.period s.loader.period)
      fire := { s.fire with reformUntil := if hasZone s = true then some (s.now + ((cfg s).tconf + 1) * 2000) else none }
      bus := { s.bus with
        statusPending := true, watchUntil := some (s.now + 2 * Config.period s.loader.period)
        replies := s.bus.replies ++ [{ dest := r.terminal, kind := 18, seq := r.seq, result := .done, payload := .none }] } } := rfl

theorem headFeeding_iff (s : State) :
    headFeeding s = true ↔ ∃ id, s.zone.queue.head? = some id ∧ slotStage s id = some .feeding := by
  unfold headFeeding
  cases s.zone.queue.head? <;> simp

theorem deadlineReached_iff (s : State) (id : PackId) :
    deadlineReached s id = true ↔ ∃ r d, recordOfId s id = some r ∧ r.deadline = some d ∧ d ≤ nodeCount s := by
  unfold deadlineReached
  cases recordOfId s id with
  | none => simp
  | some r => simp [dueCount_iff]

theorem expireReservation_of_stage {id : PackId} {r : PackRecord} (hr : recordOfId s id = some r) (h : r.stage ≠ .reserved) :
    expireReservation s id = s := by
  simp [expireReservation, hr, h]

theorem expireReservation_of_reserved {id : PackId} {r : PackRecord} (hr : recordOfId s id = some r) (h : r.stage = .reserved) :
    expireReservation s id = pulseRow (removeReservation s id) .ac4 := by
  simp [expireReservation, hr, h]

/-- The record of an ID after a release is given up, still at its bay (R46). -/
theorem recordOfId_releaseReservation {b : BayIdx} {id : PackId} {r : PackRecord} (hr : recordOfId s id = some r) (hs : r.stage = .atBay) :
    ∃ x, recordOfId (releaseReservation s b) id = some x ∧ x.stage = .atBay := by
  have frame := frame_releaseReservation s b
  have found := find?_of_forall₂ (q := hasId id) frame.records fun x y hxy => by simp only [hasId, hxy.id]
  unfold recordOfId at hr ⊢
  rw [hr] at found
  generalize (releaseReservation s b).packs.records.find? (hasId id) = y at found ⊢
  cases found with
  | some hxy =>
    refine ⟨_, rfl, ?_⟩
    rcases hxy.stage with e | ⟨e, -⟩
    · exact e.trans hs
    · rw [hs] at e
      cases e

/-- The deadline of an IN_TRANSIT record has passed: MISSING (R57, R77). -/
def missed (s : State) (id : PackId) : State :=
  updRecordOfId s id fun x => { x with stage := .missing, stageSince := nodeTime s, deadline := none }

theorem expireTransit_of_transit {id : PackId} {r : PackRecord} (hr : recordOfId s id = some r) (hs : r.stage = .inTransit) :
    expireTransit s id = if r.origin = some s.loader.address then dropSlot (missed s id) id else missed s id := by
  unfold expireTransit
  rw [hr]
  dsimp only
  rw [hs]
  rfl

theorem recordOfId_missed {id : PackId} {r : PackRecord} (hr : recordOfId s id = some r) :
    recordOfId (missed s id) id = some { r with stage := .missing, stageSince := nodeTime s, deadline := none } :=
  recordOfId_updRecordOfId_self hr rfl

theorem expireTransit_of_releasing {id : PackId} {r : PackRecord} {b : BayIdx} (hr : recordOfId s id = some r) (hs : r.stage = .atBay)
    (hb : r.bay = some b) (hrel : s.bays[b].state = .releasing) : expireTransit s id = backToSafe (releaseReservation s b) b := by
  unfold expireTransit
  rw [hr]
  dsimp only
  rw [hs]
  dsimp only
  rw [hb]
  exact if_pos hrel

theorem backToSafe_releaseReservation (s : State) (b : BayIdx) : backToSafe (releaseReservation s b) b =
    updBay (releaseReservation s b) b fun x =>
      { x with state := .safe, backoffUntil := some (s.now + (cfg s).offerBackoff * 2000) } := by
  have frame := frame_releaseReservation s b
  unfold backToSafe cfg
  rw [frame.now, frame.loader]
  rfl

theorem expireTransit_of_reserved {id : PackId} {r : PackRecord} (hr : recordOfId s id = some r) (hs : r.stage = .reserved) :
    expireTransit s id = s := by
  unfold expireTransit
  rw [hr]
  dsimp only
  rw [hs]

/-- A record whose deadline fell in the reset expires by the rule of its stage (R46, R57, R77, R82). -/
theorem expireOverdue_of_reached {id : PackId} {r : PackRecord} {d : Nat} (hr : recordOfId s id = some r) (hd : r.deadline = some d)
    (hle : d ≤ nodeCount s) : expireOverdue s id = expireReservation (expireTransit s id) id :=
  if_pos ((deadlineReached_iff s id).2 ⟨r, d, hr, hd, hle⟩)

theorem expireOverdue_of_early {id : PackId} (h : ∀ r d, recordOfId s id = some r → r.deadline = some d → nodeCount s < d) :
    expireOverdue s id = s := by
  refine if_neg fun k => ?_
  obtain ⟨r, d, hr, hd, hle⟩ := (deadlineReached_iff s id).1 k
  have := h r d hr hd
  omega

/-- What the expiries of the leaving leave alone: they write records, slots, bays, claims, rows, the log and the handover FIFO. -/
structure ExpiryFrame (s t : State) : Prop where
  now : t.now = s.now
  loader : t.loader = s.loader
  replies : t.bus.replies = s.bus.replies
  statusPending : t.bus.statusPending = s.bus.statusPending
  watchUntil : t.bus.watchUntil = s.bus.watchUntil
  sequence : t.bus.sequence = s.bus.sequence
  startUntil : t.startUntil = s.startUntil
  fire : t.fire = s.fire
  meas : t.meas = s.meas
  zmeas : t.zmeas = s.zmeas
  peers : t.peers = s.peers
  counters : t.packs.counters = s.packs.counters
  dischargedTotal : t.packs.dischargedTotal = s.packs.dischargedTotal
  shreddedTotal : t.packs.shreddedTotal = s.packs.shreddedTotal

theorem ExpiryFrame.refl (s : State) : ExpiryFrame s s := by constructor <;> rfl

theorem ExpiryFrame.trans (h : ExpiryFrame s t) (k : ExpiryFrame t u) : ExpiryFrame s u :=
  ⟨k.now.trans h.now, k.loader.trans h.loader, k.replies.trans h.replies, k.statusPending.trans h.statusPending,
    k.watchUntil.trans h.watchUntil, k.sequence.trans h.sequence, k.startUntil.trans h.startUntil, k.fire.trans h.fire,
    k.meas.trans h.meas, k.zmeas.trans h.zmeas, k.peers.trans h.peers, k.counters.trans h.counters,
    k.dischargedTotal.trans h.dischargedTotal, k.shreddedTotal.trans h.shreddedTotal⟩

theorem ReactionFrame.expiry (h : ReactionFrame s t) : ExpiryFrame s t :=
  ⟨h.now, h.loader, h.replies, h.statusPending, h.watchUntil, h.sequence, h.startUntil, h.fire, h.meas, h.zmeas, h.peers, h.counters,
    h.dischargedTotal, h.shreddedTotal⟩

theorem expiry_ite {p : Prop} [Decidable p] (ht : ExpiryFrame s t) (hu : ExpiryFrame s u) : ExpiryFrame s (if p then t else u) := by
  split
  · exact ht
  · exact hu

theorem expiry_updZone (s : State) (f : Zone → Zone) : ExpiryFrame s (updZone s f) := by constructor <;> rfl

theorem expiry_expireTransit (s : State) (id : PackId) : ExpiryFrame s (expireTransit s id) := by
  unfold expireTransit
  split
  · exact .refl s
  · split
    · exact expiry_ite (by constructor <;> rfl) (by constructor <;> rfl)
    · split
      · exact expiry_ite ((frame_releaseReservation s _).trans (frame_backToSafe _ _)).expiry (.refl s)
      · exact .refl s
    iterate 5 exact .refl s

theorem expiry_expireReservation (s : State) (id : PackId) : ExpiryFrame s (expireReservation s id) := by
  have removed : ExpiryFrame s (removeReservation s id) := by constructor <;> rfl
  exact expiry_ite (removed.trans (frame_pulseRow _ _).expiry) (.refl s)

theorem expiry_expireOverdue (s : State) (id : PackId) : ExpiryFrame s (expireOverdue s id) :=
  expiry_ite ((expiry_expireTransit s id).trans (expiry_expireReservation _ id)) (.refl s)

theorem expiry_expireFeed (s : State) : ExpiryFrame s (expireFeed s) :=
  expiry_ite ((expiry_updZone s _).trans (frame_pulseRow _ _).expiry) (expiry_updZone s _)

theorem expiry_expireAll (s : State) : ExpiryFrame s (expireAll s) := by
  have judged : ExpiryFrame s ((s.packs.records.filterMap PackRecord.id).foldl expireOverdue s) :=
    List.foldlRecOn (motive := ExpiryFrame s) _ expireOverdue (.refl s) fun u hu id _ => hu.trans (expiry_expireOverdue u id)
  have fed := judged.trans (expiry_ite (p := due ((s.packs.records.filterMap PackRecord.id).foldl expireOverdue s)
    ((s.packs.records.filterMap PackRecord.id).foldl expireOverdue s).zone.feedUntil = true) (expiry_expireFeed _) (.refl _))
  exact fed.trans (expiry_ite (expiry_updZone _ _) (.refl _))

/-- The feed deadline as it expires (R108). -/
theorem expireFeed_eq (s : State) : expireFeed s =
    if headFeeding s = true then pulseRow { s with zone := { s.zone with feedUntil := none } } .ac7
    else { s with zone := { s.zone with feedUntil := none } } := rfl

theorem expireAll_eq (s : State) : expireAll s =
    let judged := (s.packs.records.filterMap PackRecord.id).foldl expireOverdue s
    let fed := if due judged judged.zone.feedUntil = true then expireFeed judged else judged
    if due fed fed.zone.floodUntil = true then { fed with zone := { fed.zone with floodUntil := none } } else fed := rfl

end Sys2Proof.Machine

open Sys2Proof Sys2Proof.Machine

/-- Settles O5: the state of a warm reset, block by block. -/
theorem restartEntersWarmReset : Obligations.RestartEntersWarmReset := by
  intro h s hr
  refine ⟨_, exec_restart hr, enterWarmReset_now .., rfl, rfl, fun b => ?_, rfl, fun b => ?_, warmReset_packs .., fun hz => ?_, fun hz => ?_, fun n => ?_, rfl,
    rfl, decide_eq_true_iff, rfl, fun r => rowState_enterWarmReset .., ?_, ?_, ?_, ?_, fun d => ?_, fun p => ?_, rfl, rfl⟩
  · rw [enterWarmReset_meas]
    refine ⟨rfl, fun hn => ?_, fun r k n hrec hk hn => ?_⟩
    · simp [warmMeasure, hn]
    · simp [warmMeasure, hrec, rederive, hk, hn, deriveThresholds]
  · rw [enterWarmReset_bay, enterWarmReset_handover]
    refine ⟨?_, fun hb => ?_, ?_, rfl, rfl, rfl, rfl, rfl, rfl, rfl, rfl, rfl, rfl, rfl, fun hw => ?_, fun h1 h2 h3 => ?_, rfl⟩
    · rintro (hb | hb | hb | hb) <;> exact congrArg warmBayState hb
    · exact congrArg warmBayState hb
    · rintro (hb | hb | hb | hb | hb | hb) <;> exact (congrArg warmBayState hb).trans hb.symm
    · rw [warmBay_window, if_pos]
      rw [openingRuns_iff]
      unfold coilOn
      rw [decide_eq_true_iff, or_assoc]
      exact hw
    · rw [warmBay_window, if_neg]
      rw [openingRuns_iff]
      unfold coilOn
      rw [decide_eq_true_iff]
      rintro ((k | k) | ⟨u, k⟩)
      · exact h1 k
      · exact h2 k
      · exact h3 u k
  · rw [enterWarmReset_zone, warmZone_of_kept hz]
  · rw [enterWarmReset_zone, warmZone_of_working hz, enterAir_zone hz.1]
  · simp [enterWarmReset, warmFire, detectorReset]
  iterate 4 rw [enterWarmReset_causes]; rfl
  · simp [enterWarmReset, timerReset]
  · simp [enterWarmReset]

/-- Settles O6: the leaving by its equation, the expiries by the stage of each record. -/
theorem warmResetEndReturnsToService : Obligations.WarmResetEndReturnsToService := by
  refine ⟨fun r s hm hr => ⟨fun hlt => ?_, fun hle => ?_⟩, fun s => ?_, fun id s => ⟨expireOverdue_of_early, fun r d hrec hd hle => ?_⟩⟩
  · rw [exec_warmResetEnd hm hr, if_neg (by omega)]
  · have left : exec .warmResetEnd s = .next (markFirstOut s (settle (expireAll (backInService s r)))) := by
      rw [exec_warmResetEnd hm hr, if_pos hle, leaveWarmReset_eq]
    dsimp only
    rw [← backInService_eq]
    have frame := (frame_settle (expireAll (backInService s r))).trans (frame_markFirstOut s _)
    have kept := (expiry_expireAll (backInService s r)).trans frame.expiry
    exact ⟨⟨left, frame⟩, _, left, kept.now, kept.loader, kept.replies, kept.statusPending, kept.watchUntil, kept.sequence, kept.startUntil,
      kept.fire, kept.meas, kept.zmeas, kept.peers, kept.counters, kept.dischargedTotal, kept.shreddedTotal⟩
  · rw [expireAll_eq]
    simp only [due_iff, expireFeed_eq, headFeeding_iff]
  · rw [expireOverdue_of_reached hrec hd hle]
    refine ⟨fun hst ho => ?_, fun hst ho => ?_, fun b hst hb hrel => ?_, fun hst => ?_⟩
    · rw [expireTransit_of_transit hrec hst, if_neg ho]
      exact expireReservation_of_stage (recordOfId_missed hrec) nofun
    · rw [expireTransit_of_transit hrec hst, if_pos ho]
      exact expireReservation_of_stage (s := dropSlot (missed s id) id) (recordOfId_missed hrec) nofun
    · obtain ⟨x, hx, hxs⟩ := recordOfId_releaseReservation (b := b) hrec hst
      rw [expireTransit_of_releasing hrec hst hb hrel, ← backToSafe_releaseReservation]
      exact expireReservation_of_stage (s := backToSafe (releaseReservation s b) b) hx (by rw [hxs]; nofun)
    · rw [expireTransit_of_reserved hrec hst, expireReservation_of_reserved hrec hst]
      rfl

end

section
/-! SUPPORT. Channels, comparators and integration; settles O7, O9 and O10. -/

namespace Sys2Proof.Machine

variable {c : Instr} {s t u : State}

/-! ### Decisions (R8) -/

theorem lastDecisions_getLsbD {k : Nat} (h1 : 1 ≤ k) (h8 : k ≤ 8) (n : Nat) : (lastDecisions k).getLsbD n = decide (n < k) := by
  by_cases hn : n < 8
  · interval_cases k <;> interval_cases n <;> rfl
  · rw [BitVec.getLsbD_of_ge _ _ (by omega)]
    exact (decide_eq_false (by omega)).symm

theorem pushDecision_history (k : Nat) (d : Bool) (c : Comparator) :
    (pushDecision k d c).history.getLsbD 0 = d ∧ ∀ n < 7, (pushDecision k d c).history.getLsbD (n + 1) = c.history.getLsbD n := by
  refine ⟨?_, fun n hn => ?_⟩
  · simp [pushDecision]
  · have inside : n + 1 < 8 := by omega
    simp [pushDecision, inside, BitVec.getLsbD_eq_getElem (show n < 8 by omega)]

theorem pushDecision_filtered (k : Nat) (d : Bool) (c : Comparator) : (pushDecision k d c).filtered =
    if (pushDecision k d c).history &&& lastDecisions k = lastDecisions k then true
    else if (pushDecision k d c).history &&& lastDecisions k = 0 then false else c.filtered := rfl

/-- The last k decisions are all true, and all false, by their bits. -/
theorem masked_eq_mask_iff {k : Nat} (h1 : 1 ≤ k) (h8 : k ≤ 8) (h : BitVec 8) :
    h &&& lastDecisions k = lastDecisions k ↔ ∀ n < k, h.getLsbD n = true := by
  rw [BitVec.eq_of_getLsbD_eq_iff]
  simp only [BitVec.getLsbD_and, lastDecisions_getLsbD h1 h8]
  constructor
  · intro k' n hn
    simpa [hn] using k' n (by omega)
  · intro k' n _
    by_cases hn : n < k
    · simp [hn, k' n hn]
    · simp [hn]

theorem masked_eq_zero_iff {k : Nat} (h1 : 1 ≤ k) (h8 : k ≤ 8) (h : BitVec 8) :
    h &&& lastDecisions k = 0 ↔ ∀ n < k, h.getLsbD n = false := by
  rw [BitVec.eq_of_getLsbD_eq_iff]
  simp only [BitVec.getLsbD_and, lastDecisions_getLsbD h1 h8]
  constructor
  · intro k' n hn
    simpa [hn] using k' n (by omega)
  · intro k' n _
    by_cases hn : n < k
    · simp [hn, k' n hn]
    · simp [hn]

theorem decideOn_some {k : Nat} {test : Int → Bool} {c : Comparator} (x : Int) : decideOn k (some x) test c = pushDecision k (test x) c := rfl

theorem decideOn_none {k : Nat} {test : Int → Bool} {c : Comparator} : decideOn k none test c = c := rfl

/-! ### Integration (R13 to R16) -/

theorem saturate_inside {lo hi x : Int} (h : lo ≤ x ∧ x ≤ hi) : saturate lo hi x = x := by unfold saturate; omega
theorem saturate_below {lo hi x : Int} (h : x < lo) : saturate lo hi x = lo := by unfold saturate; omega
theorem saturate_above {lo hi x : Int} (h : hi < x) (hl : lo ≤ hi) : saturate lo hi x = hi := by unfold saturate; omega

theorem residualOf_cases (d : Nat) (e : Int) :
    ((d : Int) - e < 0 → residualOf d e = 0) ∧ ((d : Int) < d - e → residualOf d e = d) ∧
      ∀ n : Nat, (n : Int) = d - e → n ≤ d → residualOf d e = n := by
  unfold residualOf
  refine ⟨fun h => ?_, fun h => ?_, fun n hn hle => ?_⟩ <;> omega

/-! ### Temperatures (R18) -/

theorem pushRing_of_short {ring : List Int} (x : Int) (h : ring.length < 8) : pushRing ring x = ring ++ [x] := by
  unfold pushRing
  rw [show ring.length + 1 - 8 = 0 by omega]
  rfl

theorem pushRing_of_full {ring : List Int} (x : Int) (h : ring.length = 8) : pushRing ring x = ring.tail ++ [x] := by
  unfold pushRing
  rw [h, ← List.drop_one]
  exact List.drop_append_of_le_length (by omega)

/-- The newest value of a full ring is the one pushed. -/
theorem pushRing_newest {ring : List Int} {x : Int} (h : (pushRing ring x).length = 8) : (pushRing ring x).getD 7 0 = x := by
  have last : (pushRing ring x).getLast? = some x := by
    unfold pushRing
    rw [List.getLast?_drop, if_neg (by simp), List.getLast?_append]
    rfl
  rw [List.getLast?_eq_getElem?, h] at last
  simp [List.getD, last]

theorem riseOf_of_full {ring : List Int} {x oldest : Int} {rest : List Int} (h : (pushRing ring x).length = 8)
    (hr : pushRing ring x = oldest :: rest) : riseOf (pushRing ring x) = some (x - oldest) := by
  unfold riseOf
  rw [if_pos h, pushRing_newest h, hr]
  rfl

/-- One bay's temperatures measured: its comparators, ring and channel as a tb makes them (R5, R18). -/
def tbTaken (s : State) (b : BayIdx) (tb : Reading) : BayMeasure := (measureTb s b tb).meas[b]

theorem measureTb_eq (s : State) (b : BayIdx) (tb : Reading) :
    measureTb s b tb = { s with meas := s.meas.set b.val (tbTaken s b tb) b.isLt } := by
  unfold tbTaken
  simp [measureTb, updMeas]

/-- The ring after a reading: fed by a value, emptied on INVALID (R18). -/
def ringAfter (ring : List Int) (ch : Channel) : List Int :=
  match ch.value with
  | some x => pushRing ring x
  | none => if ch.status = .invalid then [] else ring

theorem tbTaken_eq (s : State) (b : BayIdx) (tb : Reading) : tbTaken s b tb =
    let ch := takeReading noFullScale s.meas[b].tb tb
    { s.meas[b] with
      tb := ch, ring := ringAfter s.meas[b].ring ch
      ctOver := decideOn (cfg s).kt ch.value (fun x => decide (x ≥ (cfg s).tover)) s.meas[b].ctOver
      ctRise := decideOn (cfg s).kt (ch.value.bind fun _ => riseOf (ringAfter s.meas[b].ring ch))
        (fun x => decide (x ≥ 7 * ((cfg s).rlim : Int))) s.meas[b].ctRise } := by
  unfold tbTaken measureTb
  simp only [updMeas, Fin.getElem_fin, Vector.getElem_set_self]
  rfl

end Sys2Proof.Machine

open Sys2Proof Sys2Proof.Machine

/-- Settles O7: one reading by its validity and the run before it, one decision by the last k bits. -/
theorem readingsAndDecisions : Obligations.ReadingsAndDecisions := by
  refine ⟨fun fs c x => rfl, fun fs c x => ⟨fun hs hr => ?_, fun hs hr => ?_, fun hs hr => ?_, fun hs hr => ?_, fun hs => ?_⟩,
    fun x => ⟨decide_eq_true_iff, decide_eq_true_iff⟩, fun k d c h1 h8 => ?_⟩
  · have short : ¬4 ≤ c.run + 1 := by omega
    rcases hs with hs | hs <;> simp [takeReading, short, hs]
  · simp [takeReading, hr]
  · have short : ¬4 ≤ c.run + 1 := by omega
    simp [takeReading, short, hs]
  · simp [takeReading, hr]
  · simp [takeReading, hs]
  · obtain ⟨first, older⟩ := pushDecision_history k d c
    refine ⟨first, older, fun h => ?_, fun h => ?_, fun ht hf => ?_⟩
    · rw [pushDecision_filtered, if_pos ((masked_eq_mask_iff h1 h8 _).2 h)]
    · have notAll : ¬ ∀ n < k, (pushDecision k d c).history.getLsbD n = true := fun k' => by
        have := k' 0 (by omega)
        rw [h 0 (by omega)] at this
        cases this
      rw [pushDecision_filtered, if_neg (mt (masked_eq_mask_iff h1 h8 _).1 notAll), if_pos ((masked_eq_zero_iff h1 h8 _).2 h)]
    · obtain ⟨n, hn, ht⟩ := ht
      obtain ⟨m, hm, hf⟩ := hf
      have notAll : ¬ ∀ n < k, (pushDecision k d c).history.getLsbD n = true := fun k' => by rw [k' m hm] at hf; cases hf
      have notNone : ¬ ∀ n < k, (pushDecision k d c).history.getLsbD n = false := fun k' => by rw [k' n hn] at ht; cases ht
      rw [pushDecision_filtered, if_neg (mt (masked_eq_mask_iff h1 h8 _).1 notAll), if_neg (mt (masked_eq_zero_iff h1 h8 _).1 notNone)]

/-- Settles O9: saturation on either side of each limit, and the residual by the three cases of its bounds. -/
theorem integrationFollowsRules : Obligations.IntegrationFollowsRules := by
  intro period v i r a ha
  have e := show integrateRecord period v i r = _ by unfold integrateRecord; rw [ha]
  rw [e]
  refine ⟨_, _, rfl, saturate_inside, fun h => saturate_below h, fun h => saturate_above h (by decide), saturate_inside,
    fun h => saturate_below h, fun h => saturate_above h (by decide), rfl, ⟨saturate_inside, fun h => saturate_below h,
    fun h => saturate_above h (by decide), fun hn => ?_, fun d hd => ?_, ?_⟩, rfl⟩
  · simp [hn]
  · obtain ⟨h1, h2, h3⟩ := residualOf_cases d (saturate (-1000000) 1000000
      ((saturate (-(2 ^ 63)) (2 ^ 63 - 1) (a.ea + v * i * period)).tdiv 3600000000))
    rw [hd]
    exact ⟨fun h => congrArg some (h1 h), fun h => congrArg some (h2 h), fun n hn hle => congrArg some (h3 n hn hle)⟩
  · simp only [Bool.or_eq_true, decide_eq_true_eq, or_assoc]

/-- Settles O10: the channel, CT_over, the ring and CT_rise by whether the channel has a value and the ring is full. -/
theorem tbArrivalMeasures : Obligations.TbArrivalMeasures := by
  intro b tb s hs
  have run : exec (.tbArrival b tb) s = .next (if bayConfigured s b then settle (measureTb s b tb) else s) := by
    simp [exec, execTbArrival, whenServing, hs]
  refine ⟨fun hb => by simp [run, hb], fun hb => ⟨tbTaken s b tb, ?_, ?_⟩⟩
  · rw [← measureTb_eq]
    exact ⟨by simp [run, hb], frame_settle _⟩
  · rw [tbTaken_eq]
    have full : noFullScale = fun _ => false := rfl
    rw [full]
    generalize takeReading (fun _ => false) s.meas[b].tb tb = ch
    refine ⟨rfl, rfl, fun x hx => ?_, fun hn => ?_, rfl⟩
    · unfold ringAfter
      dsimp only at hx ⊢
      rw [hx]
      refine ⟨pushRing_of_short x, pushRing_of_full x, fun hl => ?_, fun oldest rest hl hr => ?_⟩
      · have none : riseOf (pushRing s.meas[b].ring x) = none := if_neg hl
        rw [Option.bind_some, none, decideOn_none]
      · rw [Option.bind_some, riseOf_of_full hl hr, decideOn_some]
    · unfold ringAfter
      dsimp only at hn ⊢
      rw [hn]
      exact ⟨rfl, fun h => if_pos h, fun h => if_neg h⟩

end

section
/-! SUPPORT. A pair measured, integrated and armed, and the late rebound it may set off; settles O8. -/

namespace Sys2Proof.Machine

variable {c : Instr} {s t u : State}

/-! ### Records rewritten twice -/

theorem modifyFirst_id {α : Type} (p : α → Bool) (l : List α) : modifyFirst p (fun x => x) l = l := by
  induction l with
  | nil => rfl
  | cons x xs ih => simp [modifyFirst, ih]

/-- Two changes of the first element of a kind are one, where the first leaves it of the kind. -/
theorem modifyFirst_modifyFirst {α : Type} {p : α → Bool} {f : α → α} (g : α → α) (h : ∀ x, p x = true → p (f x) = true) (l : List α) :
    modifyFirst p g (modifyFirst p f l) = modifyFirst p (fun x => g (f x)) l := by
  induction l with
  | nil => rfl
  | cons x xs ih =>
    by_cases hx : p x = true
    · simp [modifyFirst, hx, h x hx]
    · simp [modifyFirst, hx, ih]

theorem updRecordOfBay_id (s : State) (b : BayIdx) : updRecordOfBay s b (fun r => r) = s := by
  show { s with packs := { s.packs with records := modifyFirst (isAtBay b) (fun r => r) s.packs.records } } = s
  rw [modifyFirst_id]

theorem updRecordOfBay_updRecordOfBay (s : State) (b : BayIdx) {f : PackRecord → PackRecord} (g : PackRecord → PackRecord)
    (h : ∀ r, (f r).stage = r.stage ∧ (f r).bay = r.bay) :
    updRecordOfBay (updRecordOfBay s b f) b g = updRecordOfBay s b fun r => g (f r) := by
  have keeps : ∀ r, isAtBay b r = true → isAtBay b (f r) = true := fun r hr => by simpa [isAtBay, h r] using hr
  exact congrArg (fun l => ({ s with packs := { s.packs with records := l } } : State)) (modifyFirst_modifyFirst g keeps _)

/-! ### One pair (R1 to R16, R33) -/

/-- One bay's measurement after a pair. -/
def pairTaken (s : State) (b : BayIdx) (v i : Reading) : BayMeasure := (measurePair s b v i).meas[b]

theorem measurePair_eq (s : State) (b : BayIdx) (v i : Reading) :
    measurePair s b v i = { s with meas := s.meas.set b.val (pairTaken s b v i) b.isLt } := by
  unfold pairTaken
  simp [measurePair, updMeas]

/-- The channels and the two current limits of a bay after a pair. -/
def channelsTaken (s : State) (v i : Reading) (m : BayMeasure) : BayMeasure :=
  { m with
    v := takeReading fullScaleV m.v v, i := takeReading fullScaleI m.i i
    ciMax := decideOn (cfg s).ke (takeReading fullScaleI m.i i).value (fun x => decide (x ≥ ((cfg s).imax : Int))) m.ciMax
    ciRev := decideOn (cfg s).ke (takeReading fullScaleI m.i i).value (fun x => decide (x ≤ -((cfg s).irev : Int))) m.ciRev }

theorem pairTaken_of_empty {b : BayIdx} {v i : Reading} (h : s.meas[b].thresholds = none) :
    pairTaken s b v i = channelsTaken s v i s.meas[b] := by
  unfold pairTaken measurePair
  simp only [updMeas, Fin.getElem_fin, Vector.getElem_set_self] at h ⊢
  generalize s.meas[b.val] = m at h ⊢
  cases m
  cases h
  rfl

theorem pairTaken_of_admitted {b : BayIdx} {v i : Reading} {t : Thresholds} (h : s.meas[b].thresholds = some t) :
    pairTaken s b v i =
      { channelsTaken s v i s.meas[b] with
        cvEnd := decideOn (cfg s).ke (takeReading fullScaleV s.meas[b].v v).value (fun x => decide (x ≤ (t.vend : Int))) s.meas[b].cvEnd
        cvRel := decideOn (cfg s).ke (takeReading fullScaleV s.meas[b].v v).value (fun x => decide (x ≥ (t.vrel : Int))) s.meas[b].cvRel
        ciEnd := decideOn (cfg s).ke (takeReading fullScaleI s.meas[b].i i).value (fun x => decide (x ≤ (t.iend : Int)))
          s.meas[b].ciEnd } := by
  unfold pairTaken measurePair
  simp only [updMeas, Fin.getElem_fin, Vector.getElem_set_self] at h ⊢
  generalize s.meas[b.val] = m at h ⊢
  cases m
  cases h
  rfl

/-- A record that gets the degraded mark while a clamp flag is set (R3). -/
def marked (m : BayMeasure) (r : PackRecord) : PackRecord :=
  if m.v.clamp = true ∨ m.i.clamp = true then { r with degraded := true } else r

theorem markDegraded_eq (s : State) (b : BayIdx) : markDegraded s b = updRecordOfBay s b (marked s.meas[b]) := by
  unfold markDegraded marked
  by_cases h : s.meas[b].v.clamp = true ∨ s.meas[b].i.clamp = true
  · simp only [if_pos h, Bool.or_eq_true]
  · simp only [if_neg h, Bool.or_eq_true]
    exact (updRecordOfBay_id s b).symm

theorem marked_keeps (m : BayMeasure) (r : PackRecord) : (marked m r).stage = r.stage ∧ (marked m r).bay = r.bay := by
  unfold marked
  split <;> exact ⟨rfl, rfl⟩

/-- The degraded mark and the interval are one rewriting of the record. -/
theorem integrate_markDegraded (s : State) (b : BayIdx) :
    integrate (markDegraded s b) b = updRecordOfBay s b (pairTakenBy s b s.meas[b]) := by
  rw [markDegraded_eq]
  have bay_frozen : (contactClosed s b && !frozen s b) = true ↔ s.meas[b].kf.filtered = true ∧ s.bays[b].state ≠ .safe ∧
      s.bays[b].state ≠ .offering ∧ s.bays[b].state ≠ .releasing := by
    simp [contactClosed, frozen]
  have unfolded : integrate (updRecordOfBay s b (marked s.meas[b])) b =
      match s.meas[b].v.value, s.meas[b].i.value with
      | some v, some i =>
        if contactClosed s b && !frozen s b then
          updRecordOfBay (updRecordOfBay s b (marked s.meas[b])) b (integrateRecord (cfg s).samplePeriod v i)
        else updRecordOfBay s b (marked s.meas[b])
      | _, _ => updRecordOfBay s b (marked s.meas[b]) := rfl
  rw [unfolded]
  unfold pairTakenBy
  cases s.meas[b].v.value with
  | none => rfl
  | some v =>
    cases s.meas[b].i.value with
    | none => rfl
    | some i =>
      simp only [bay_frozen]
      split
      · exact updRecordOfBay_updRecordOfBay s b _ (marked_keeps _)
      · rfl

/-- A pair of a configured bay: its measurement and the record of its pack. -/
def pairMeasured (s : State) (b : BayIdx) (m : BayMeasure) : State :=
  { s with
    meas := s.meas.set b.val m b.isLt
    packs := { s.packs with records := modifyFirst (isAtBay b) (pairTakenBy s b m) s.packs.records } }

theorem integrate_measurePair (s : State) (b : BayIdx) (v i : Reading) :
    integrate (markDegraded (measurePair s b v i) b) b = pairMeasured s b (pairTaken s b v i) := by
  rw [integrate_markDegraded, measurePair_eq]
  have here : (s.meas.set b.val (pairTaken s b v i) b.isLt)[b] = pairTaken s b v i := by simp
  show updRecordOfBay _ b (pairTakenBy s b ((s.meas.set b.val (pairTaken s b v i) b.isLt)[b])) = _
  rw [here]
  rfl

theorem state_armEnd (s : State) (b d : BayIdx) : (armEnd s b).bays[d].state = s.bays[d].state := by
  unfold armEnd
  split
  · rw [bays_updBay]
    split
    · subst d; rfl
    · rfl
  · rfl

/-- The state a pair leaves before the reactions (R44, R33). -/
theorem exec_pairArrival {b : BayIdx} {v i : BitVec 16} {vValid iValid : Bool} (hs : inService s = true) :
    exec (.pairArrival b v vValid i iValid) s =
      .next (if bayConfigured s b then
        let m := pairTaken s b { value := v.toNat, valid := vValid } { value := i.toInt, valid := iValid }
        let t := armEnd (pairMeasured s b m) b
        settle (if m.cvRel.filtered = true ∧ s.meas[b].cvRel.filtered = false ∧ (s.bays[b].state = .safe ∨ s.bays[b].state = .offering)
          then lateReboundOrHold t b else t)
        else s) := by
  have held : ∀ m : BayMeasure, (armEnd (pairMeasured s b m) b).bays[b].state = s.bays[b].state := fun m => state_armEnd _ b b
  have taken : ∀ m : BayMeasure, (armEnd (pairMeasured s b m) b).meas[b] = m := fun m => by
    rw [(frame_armEnd _ b).meas]
    simp [pairMeasured]
  simp only [exec, execPairArrival, whenServing, hs, integrate_measurePair, if_true]
  rw [taken, held]
  simp only [Bool.and_eq_true, Bool.not_eq_true', decide_eq_true_eq, and_assoc]

theorem frame_lateReboundOrHold (s : State) (b : BayIdx) : ReactionFrame s (lateReboundOrHold s b) := by
  unfold lateReboundOrHold
  dsimp only
  split
  · split
    · exact (frame_takeChoice s).trans (frame_lateRebound _ b)
    · exact frame_takeChoice s
  · exact frame_lateRebound s b

theorem armEnd_pairMeasured (s : State) (b : BayIdx) (m : BayMeasure) :
    armEnd (pairMeasured s b m) b =
      if s.bays[b].state = .discharging ∧ m.ciEnd.filtered = false then
        { pairMeasured s b m with bays := s.bays.set b { s.bays[b] with endArmed := true } }
      else pairMeasured s b m := by
  have here : (pairMeasured s b m).meas[b] = m := by simp [pairMeasured]
  unfold armEnd
  rw [here]
  rfl

/-- Where the rows hold the bay the rebound or the hold comes first, elsewhere the rebound (log 7). -/
theorem lateReboundOrHold_cases (s : State) (b : BayIdx) :
    ((¬∃ t, handConditions s = some t ∧ t.bays[b].state = .held) → s.bays[b].state ≠ .held → lateReboundOrHold s b = lateRebound s b) ∧
    ((∃ t, handConditions s = some t ∧ t.bays[b].state = .held) →
      lateReboundOrHold s b = lateRebound { s with freeIndex := s.freeIndex + 1 } b ∨
        lateReboundOrHold s b = { s with freeIndex := s.freeIndex + 1 }) := by
  unfold lateReboundOrHold
  constructor
  · intro never free
    cases h : handConditions s with
    | none => exact if_neg free
    | some t => exact if_neg fun held => never ⟨t, h, held⟩
  · rintro ⟨t, h, held⟩
    rw [h]
    have taken : (((some t : Option State).getD s).bays[b].state = .held) := held
    simp only [taken, if_true, takeChoice]
    exact ite_eq_or_eq _ _ _

end Sys2Proof.Machine

open Sys2Proof Sys2Proof.Machine

/-- Settles O8: a pair is the rewriting `pairMeasured`, the arming, and the choice `lateReboundOrHold` where the rebound is late. -/
theorem pairArrivalMeasures : Obligations.PairArrivalMeasures := by
  unfold Obligations.PairArrivalMeasures
  intro b v vValid i iValid s hs o
  have outcome : o = _ := exec_pairArrival hs
  clear_value o
  obtain ⟨m, hm⟩ : ∃ m, pairTaken s b { value := v.toNat, valid := vValid } { value := i.toInt, valid := iValid } = m := ⟨_, rfl⟩
  rw [hm] at outcome
  dsimp only at outcome
  subst outcome
  refine ⟨fun hb => by rw [if_neg (by rw [hb]; decide)], fun hb => ⟨m, ?_⟩⟩
  rw [if_pos hb]
  intro measured armed late holds chosen
  have harmed : armEnd (pairMeasured s b m) b = armed := armEnd_pairMeasured s b m
  clear_value armed
  rw [harmed]
  have armed_frame : ReactionFrame (pairMeasured s b m) armed := harmed ▸ frame_armEnd _ b
  have armed_state : armed.bays[b].state = s.bays[b].state := harmed ▸ state_armEnd _ b b
  have armed_free : armed.freeIndex = s.freeIndex := by
    rw [← harmed]; unfold armEnd; split <;> rfl
  have cases_late := lateReboundOrHold_cases armed b
  rw [armed_free, armed_state] at cases_late
  refine ⟨?_, ?_, ?_, ?_, ?_⟩
  · refine ⟨_, rfl, armed_frame.trans (.trans ?_ (frame_settle _))⟩
    split
    · exact frame_lateReboundOrHold armed b
    · exact .refl armed
  · intro early
    rw [if_neg early]
    exact ⟨rfl, frame_settle _⟩
  · intro late never
    obtain ⟨-, -, offered⟩ := id late
    rw [if_pos late, cases_late.1 never (by rcases offered with e | e <;> rw [e] <;> decide)]
    exact ⟨rfl, frame_settle _⟩
  · intro late holds
    rw [if_pos late]
    rcases cases_late.2 holds with e | e <;> rw [e]
    · exact .inl ⟨rfl, frame_settle _⟩
    · exact .inr ⟨rfl, frame_settle _⟩
  · cases empty : s.meas[b].thresholds with
    | none =>
      rw [pairTaken_of_empty empty] at hm
      subst hm
      refine ⟨rfl, rfl, rfl, rfl, nofun, fun _ => ⟨rfl, rfl, rfl⟩, rfl⟩
    | some th =>
      rw [pairTaken_of_admitted empty] at hm
      subst hm
      refine ⟨rfl, rfl, rfl, rfl, ?_, nofun, rfl⟩
      rintro _ ⟨⟩
      exact ⟨rfl, rfl, rfl⟩
end

section
/-! SUPPORT. The zone channels after an arrival, the top-up, and the choice between the purge and the alarm; settles O11. -/

namespace Sys2Proof.Machine

variable {c : Instr} {s t u : State}

/-! ### Oxygen (R19, R20) -/

theorem effectiveOxygen_some {a b : Channel} {x y : Int} (ha : oxygenReads a = some x) (hb : oxygenReads b = some y) :
    effectiveOxygen a b = some (max x y) := by
  change oxygenCounted a = _ at ha
  change oxygenCounted b = _ at hb
  simp only [effectiveOxygen, ha, hb]

theorem effectiveOxygen_none {a b : Channel} (h : oxygenReads a = none ∨ oxygenReads b = none) : effectiveOxygen a b = none := by
  change oxygenCounted a = _ ∨ oxygenCounted b = _ at h
  unfold effectiveOxygen
  rcases h with h | h
  · rw [h]
  · rw [h]; cases oxygenCounted a <;> rfl

theorem oxygenDifference_none {a b : Channel} (h : a.value = none ∨ b.value = none) : oxygenDifference a b = none := by
  unfold oxygenDifference
  rcases h with h | h
  · rw [h]
  · rw [h]; cases a.value <;> rfl

/-- A channel in NO_SAMPLE after a reading has no value, and so brings nothing to O2eff. -/
theorem oxygenReads_of_noSample {fs : Int → Bool} {ch : Channel} {r : Reading} (h : (takeReading fs ch r).status = .noSample) :
    oxygenReads (takeReading fs ch r) = none := by
  have bare : (takeReading fs ch r).value = none := by
    unfold takeReading at h ⊢
    split
    · rename_i valid; simp [valid] at h
    · split
      · rfl
      · rename_i invalid run
        simp only [invalid, run, if_false] at h
        cases status : ch.status <;> simp_all
  simp only [oxygenReads, h, bare]
  rfl

/-! ### The crossings of the top-up (R96) -/

/-- The top-up after an arrival. -/
def topUpAfter (s : State) (m : ZoneMeasure) : Bool :=
  if s.zone.state = .inert ∨ s.zone.state = .ready ∨ s.zone.state = .running then
    if m.coInert.filtered = true ∧ s.zmeas.coInert.filtered = false then false
    else if m.coTop.filtered = true ∧ s.zmeas.coTop.filtered = false then true else s.zone.topUp
  else s.zone.topUp

theorem topUpCrossing_eq (s : State) (m : ZoneMeasure) :
    topUpCrossing s { s with zmeas := m } = { s with zmeas := m, zone := { s.zone with topUp := topUpAfter s m } } := by
  unfold topUpCrossing topUpAfter
  by_cases run : s.zone.state = .inert ∨ s.zone.state = .ready ∨ s.zone.state = .running
  · rw [if_pos run, if_pos run]
    simp only [Bool.and_eq_true, Bool.not_eq_true']
    by_cases top : m.coTop.filtered = true ∧ s.zmeas.coTop.filtered = false
    · simp only [if_pos top, updZone_zmeas]
      split <;> rfl
    · simp only [if_neg top]
      split <;> rfl
  · rw [if_neg run, if_neg run]

/-- What the choice between the purge and the alarm may change. -/
theorem settleLostOrAlarm_frame (s : State) : ReactionFrame s (settleLostOrAlarm s) ∧
    { settleLostOrAlarm s with zone := s.zone, freeIndex := s.freeIndex } = s := by
  unfold settleLostOrAlarm
  split
  · dsimp only [takeChoice]
    split
    · exact ⟨(frame_takeChoice s).trans (frame_enterPurging _), rfl⟩
    · exact ⟨frame_takeChoice s, rfl⟩
  · exact ⟨.refl s, rfl⟩

theorem settleLostOrAlarm_of_not (h : ¬(s.zone.state = .inert ∧ s.zmeas.coInert.filtered = false ∧ s.zmeas.coWarn.filtered = true)) :
    settleLostOrAlarm s = s := if_neg h

end Sys2Proof.Machine

open Sys2Proof Sys2Proof.Machine

/-- Settles O11: the measured channels are those of `measureZone`, and neither the top-up nor the choice touches them. -/
theorem zoneArrivalMeasures : Obligations.ZoneArrivalMeasures := by
  unfold Obligations.ZoneArrivalMeasures
  intro o2a o2b h1 h2 s hs
  refine ⟨fun bare => by simp [exec, execZoneArrival, whenServing, hs, bare], fun z hz => ?_⟩
  have taken : measureZone s z o2a o2b h1 h2 = { s with zmeas := (measureZone s z o2a o2b h1 h2).zmeas } := rfl
  generalize hm : (measureZone s z o2a o2b h1 h2).zmeas = m at taken
  have answer : exec (.zoneArrival o2a o2b h1 h2) s =
      .next (settle (settleLostOrAlarm { s with zmeas := m, zone := { s.zone with topUp := topUpAfter s m } })) := by
    rw [← topUpCrossing_eq, ← taken]
    simp only [exec, execZoneArrival, whenServing, hs, hz, if_true]
  generalize hu : ({ s with zmeas := m, zone := { s.zone with topUp := topUpAfter s m } } : State) = u at answer
  obtain ⟨kept, rest⟩ := settleLostOrAlarm_frame u
  have zmeas_u : (settleLostOrAlarm u).zmeas = m := by rw [kept.zmeas, ← hu]
  refine ⟨m, settleLostOrAlarm u, answer, frame_settle _, ?_⟩
  have measured : m = (measureZone s z o2a o2b h1 h2).zmeas := hm.symm
  have a_reads : m.o2a = takeReading noFullScale s.zmeas.o2a o2a := by rw [measured]; rfl
  have b_reads : m.o2b = takeReading noFullScale s.zmeas.o2b o2b := by rw [measured]; rfl
  have inert : m.coInert = decideOn (cfg s).kg (effectiveOxygen m.o2a m.o2b) (fun o => decide (o ≤ (z.o2inert : Int))) s.zmeas.coInert := by
    rw [measured]; rfl
  have top : m.coTop = decideOn (cfg s).kg (effectiveOxygen m.o2a m.o2b) (fun o => decide (o ≥ (z.o2top : Int))) s.zmeas.coTop := by
    rw [measured]; rfl
  have warn : m.coWarn = decideOn (cfg s).kg (effectiveOxygen m.o2a m.o2b) (fun o => decide (o ≥ (z.o2warn : Int))) s.zmeas.coWarn := by
    rw [measured]; rfl
  have dis : m.coDis = decideOn (cfg s).kg (oxygenDifference m.o2a m.o2b) (fun d => decide (d > (z.tol : Int))) s.zmeas.coDis := by
    rw [measured]; rfl
  refine ⟨a_reads, b_reads, by rw [measured]; rfl, by rw [measured]; rfl, ?_, ?_, ?_, ?_, ?_, ?_, by rw [measured]; rfl,
    by rw [measured]; rfl, ?_⟩
  · intro x y hx hy
    rw [inert, top, warn, effectiveOxygen_some hx hy]
    exact ⟨rfl, rfl, rfl⟩
  · intro silent
    rw [inert, top, warn, effectiveOxygen_none silent]
    exact ⟨rfl, rfl, rfl⟩
  · rw [a_reads]; exact oxygenReads_of_noSample
  · rw [b_reads]; exact oxygenReads_of_noSample
  · intro x y hx hy
    rw [dis, show oxygenDifference m.o2a m.o2b = some |x - y| by simp only [oxygenDifference, hx, hy]]
    rfl
  · intro silent
    rw [dis, oxygenDifference_none silent]
    rfl
  · refine ⟨by rw [measured]; rfl, by rw [measured]; rfl, by rw [measured]; rfl, by rw [measured]; rfl, by rw [measured]; rfl,
      by rw [measured]; rfl, zmeas_u, ?_, fun calm => ?_⟩
    · calc { settleLostOrAlarm u with zmeas := s.zmeas, zone := s.zone, freeIndex := s.freeIndex }
          = { { settleLostOrAlarm u with zone := u.zone, freeIndex := u.freeIndex } with
              zmeas := s.zmeas, zone := s.zone, freeIndex := s.freeIndex } := rfl
        _ = { u with zmeas := s.zmeas, zone := s.zone, freeIndex := s.freeIndex } := by rw [rest]
        _ = s := by rw [← hu]
    · subst hu
      rw [settleLostOrAlarm_of_not calm]
      rfl
end

section
/-! SUPPORT. Decisions pushed into discrete inputs, and what their owners leave of the measurement; settles O12. -/

namespace Sys2Proof.Machine

variable {c : Instr} {s t u : State}

/-! ### The comparator of an input -/

/-- The comparator of a discrete input. -/
def comparatorOf (s : State) : DiscreteInput → Comparator
  | .pp b => s.meas[b].pp
  | .kf b => s.meas[b].kf
  | .d n => s.zmeas.d[n]
  | .dc => s.zmeas.dc
  | .ar => s.zmeas.ar
  | .fc => s.zmeas.fc
  | .g n => s.zmeas.g[n]

theorem comparatorOf_pushInput_of_ne (s : State) (x : DiscreteInput × Bool) {y : DiscreteInput} (h : y ≠ x.1) :
    comparatorOf (pushInput s x) y = comparatorOf s y := by
  obtain ⟨i, l⟩ := x
  have h' : i ≠ y := h.symm
  by_cases hc : inputConfigured s i = true
  · cases i <;> cases y <;> simp only [pushInput, hc, if_true, comparatorOf] <;> (try split) <;>
      simp_all [updMeas, updZMeas, updBay, Vector.getElem_set, Fin.ext_iff]
    all_goals (split <;> simp_all)
  · simp [pushInput, hc]

theorem comparatorOf_pushInput_same (s : State) (x : DiscreteInput) (l : Bool) :
    comparatorOf (pushInput s (x, l)) x =
      if inputConfigured s x = true then pushDecision (cfg s).kd l (comparatorOf s x) else comparatorOf s x := by
  by_cases hc : inputConfigured s x = true
  · rw [if_pos hc]
    cases x <;> simp only [pushInput, hc, if_true, comparatorOf] <;> (try split) <;> simp [updMeas, updZMeas, updBay]
  · rw [if_neg hc]
    simp [pushInput, hc]

theorem inputConfigured_pushInputs (levels : List (DiscreteInput × Bool)) (s : State) (x : DiscreteInput) :
    inputConfigured (levels.foldl pushInput s) x = inputConfigured s x := by
  induction levels generalizing s with
  | nil => rfl
  | cons y levels ih => exact (ih _).trans (inputConfigured_pushInput s y x)

/-- An input that no level names keeps its comparator. -/
theorem comparatorOf_pushInputs_of_not_mem {levels : List (DiscreteInput × Bool)} {x : DiscreteInput} (h : x ∉ levels.map Prod.fst)
    (s : State) : comparatorOf (levels.foldl pushInput s) x = comparatorOf s x := by
  induction levels generalizing s with
  | nil => rfl
  | cons y levels ih =>
    rw [List.map_cons, List.mem_cons, not_or] at h
    exact (ih h.2 _).trans (comparatorOf_pushInput_of_ne s y h.1)

theorem decidedBy_cons_same (s : State) (x : DiscreteInput) (l : Bool) (levels : List (DiscreteInput × Bool)) (k : Comparator) :
    decidedBy s ((x, l) :: levels) x k = if inputConfigured s x = true then pushDecision (cfg s).kd l k else k := by
  unfold decidedBy levelOf
  rw [List.find?_cons_of_pos (by simp)]
  rfl

theorem decidedBy_cons_of_ne (s : State) {x : DiscreteInput} {y : DiscreteInput × Bool} (h : x ≠ y.1)
    (levels : List (DiscreteInput × Bool)) (k : Comparator) : decidedBy s (y :: levels) x k = decidedBy s levels x k := by
  unfold decidedBy levelOf
  rw [List.find?_cons_of_neg (by simpa using h.symm)]

theorem decidedBy_pushInput (s : State) (y : DiscreteInput × Bool) (levels : List (DiscreteInput × Bool)) (x : DiscreteInput)
    (k : Comparator) : decidedBy (pushInput s y) levels x k = decidedBy s levels x k := by
  unfold decidedBy
  rw [inputConfigured_pushInput, cfg_pushInput]

/-- Every input takes at most one decision at an arrival that names it once (R6, R8). -/
theorem comparatorOf_pushInputs {levels : List (DiscreteInput × Bool)} (once : (levels.map Prod.fst).Nodup) (s : State)
    (x : DiscreteInput) : comparatorOf (levels.foldl pushInput s) x = decidedBy s levels x (comparatorOf s x) := by
  induction levels generalizing s with
  | nil => rfl
  | cons y levels ih =>
    obtain ⟨y, l⟩ := y
    rw [List.map_cons, List.nodup_cons] at once
    obtain ⟨fresh, once⟩ := once
    by_cases h : x = y
    · subst h
      rw [decidedBy_cons_same, ← comparatorOf_pushInput_same]
      exact comparatorOf_pushInputs_of_not_mem fresh _
    · rw [decidedBy_cons_of_ne s h, List.foldl_cons, ih once, decidedBy_pushInput, comparatorOf_pushInput_of_ne s (y, l) h]

/-! ### What pushed levels leave alone -/

/-- The fields of bays and zone that are no discrete input, and what the node keeps beside them. -/
structure InputFrame (s t : State) : Prop where
  meas : ∀ b : BayIdx, { t.meas[b] with pp := s.meas[b].pp, kf := s.meas[b].kf } = s.meas[b]
  zmeas : { t.zmeas with d := s.zmeas.d, g := s.zmeas.g, dc := s.zmeas.dc, ar := s.zmeas.ar, fc := s.zmeas.fc } = s.zmeas

theorem InputFrame.refl (s : State) : InputFrame s s := ⟨fun _ => rfl, rfl⟩

theorem InputFrame.trans (h : InputFrame s t) (k : InputFrame t u) : InputFrame s u where
  meas b := by
    have e := congrArg (fun m : BayMeasure => ({ m with pp := s.meas[b].pp, kf := s.meas[b].kf } : BayMeasure)) (k.meas b)
    exact e.trans (h.meas b)
  zmeas := by
    have e := congrArg (fun m : ZoneMeasure =>
      ({ m with d := s.zmeas.d, g := s.zmeas.g, dc := s.zmeas.dc, ar := s.zmeas.ar, fc := s.zmeas.fc } : ZoneMeasure)) k.zmeas
    exact e.trans h.zmeas

theorem meas_updMeas (s : State) (b d : BayIdx) (f : BayMeasure → BayMeasure) :
    (updMeas s b f).meas[d] = if d = b then f s.meas[b] else s.meas[d] := by
  by_cases h : d = b
  · subst h; simp
  · have away : b.val ≠ d.val := fun e => h (Fin.ext e.symm)
    simp [h, away]

theorem inputFrame_updMeas (s : State) (b : BayIdx) (f : BayMeasure → BayMeasure)
    (h : ∀ m : BayMeasure, { f m with pp := m.pp, kf := m.kf } = m) : InputFrame s (updMeas s b f) where
  meas d := by
    rw [meas_updMeas]
    split
    · subst d; exact h _
    · rfl
  zmeas := rfl

theorem inputFrame_pushInput (s : State) (x : DiscreteInput × Bool) : InputFrame s (pushInput s x) := by
  obtain ⟨x, l⟩ := x
  unfold pushInput
  dsimp only
  split
  · cases x with
    | pp b =>
      have pushed := inputFrame_updMeas s b (fun m => { m with pp := pushDecision (cfg s).kd l m.pp }) fun _ => rfl
      dsimp only
      split
      · exact ⟨pushed.meas, pushed.zmeas⟩
      · exact pushed
    | kf b => exact inputFrame_updMeas s b _ fun _ => rfl
    | d n => exact ⟨fun _ => rfl, rfl⟩
    | dc => exact ⟨fun _ => rfl, rfl⟩
    | ar => exact ⟨fun _ => rfl, rfl⟩
    | fc => exact ⟨fun _ => rfl, rfl⟩
    | g n => exact ⟨fun _ => rfl, rfl⟩
  · exact .refl s

theorem inputFrame_pushInputs (levels : List (DiscreteInput × Bool)) (s : State) : InputFrame s (levels.foldl pushInput s) := by
  induction levels generalizing s with
  | nil => exact .refl s
  | cons x levels ih => exact (inputFrame_pushInput s x).trans (ih _)

/-! ### What the owners leave of the measurement -/

/-- What the owners of inputs leave alone: the measurement but for thresholds that are released, and what no input owns. -/
structure OwnersFrame (s t : State) : Prop where
  meas : ∀ b : BayIdx, { t.meas[b] with thresholds := s.meas[b].thresholds } = s.meas[b]
  zmeas : t.zmeas = s.zmeas
  now : t.now = s.now
  loader : t.loader = s.loader
  peers : t.peers = s.peers
  startUntil : t.startUntil = s.startUntil
  replies : t.bus.replies = s.bus.replies
  sequence : t.bus.sequence = s.bus.sequence

theorem ReactionFrame.owners (h : ReactionFrame s t) : OwnersFrame s t where
  meas b := by rw [h.meas]
  zmeas := h.zmeas
  now := h.now
  loader := h.loader
  peers := h.peers
  startUntil := h.startUntil
  replies := h.replies
  sequence := h.sequence

theorem OwnersFrame.refl (s : State) : OwnersFrame s s := (ReactionFrame.refl s).owners

theorem OwnersFrame.trans (h : OwnersFrame s t) (k : OwnersFrame t u) : OwnersFrame s u where
  meas b := by
    have e := congrArg (fun m : BayMeasure => ({ m with thresholds := s.meas[b].thresholds } : BayMeasure)) (k.meas b)
    exact e.trans (h.meas b)
  zmeas := k.zmeas.trans h.zmeas
  now := k.now.trans h.now
  loader := k.loader.trans h.loader
  peers := k.peers.trans h.peers
  startUntil := k.startUntil.trans h.startUntil
  replies := k.replies.trans h.replies
  sequence := k.sequence.trans h.sequence

theorem owners_packs (s : State) (p : PackTable) : OwnersFrame s { s with packs := p } := ⟨fun _ => rfl, rfl, rfl, rfl, rfl, rfl, rfl, rfl⟩

theorem owners_updFire (s : State) (f : Fire → Fire) : OwnersFrame s (updFire s f) := ⟨fun _ => rfl, rfl, rfl, rfl, rfl, rfl, rfl, rfl⟩

theorem owners_updZone (s : State) (f : Zone → Zone) : OwnersFrame s (updZone s f) := ⟨fun _ => rfl, rfl, rfl, rfl, rfl, rfl, rfl, rfl⟩

theorem owners_emptyBay (s : State) (b : BayIdx) : OwnersFrame s (emptyBay s b) where
  meas d := by
    unfold emptyBay
    rw [meas_updMeas]
    split
    · subst d; rfl
    · rfl
  zmeas := rfl
  now := rfl
  loader := rfl
  peers := rfl
  startUntil := rfl
  replies := rfl
  sequence := rfl

theorem owners_updBay (s : State) (b : BayIdx) (f : Bay → Bay) : OwnersFrame s (updBay s b f) := (frame_updBay s b f).owners

theorem owners_removePack (s : State) (b : BayIdx) : OwnersFrame s (removePack s b) := by
  unfold removePack
  have gone : OwnersFrame s (abandonIfOffering (coilOff s b) b) := ((frame_coilOff s b).trans (frame_abandonIfOffering _ b)).owners
  exact gone.trans (.trans (owners_packs _ _) (.trans (owners_packs _ _) (.trans (owners_emptyBay _ b) (owners_updBay _ b _))))

theorem owners_packLeaves (s : State) (b : BayIdx) : OwnersFrame s (packLeaves s b) := by
  unfold packLeaves
  have counted : OwnersFrame s (countEnergyOfBay s b) := owners_packs s _
  have left (f : PackRecord → PackRecord) : OwnersFrame s (updRecordOfBay (countEnergyOfBay s b) b f) :=
    counted.trans (owners_packs _ _)
  refine OwnersFrame.trans ?_ (owners_emptyBay _ b)
  split
  · split
    · exact (left _).trans ((frame_updHandover _ b _).owners.trans (owners_updZone _ _))
    · exact left _
  · exact left _

theorem owners_packGone (s : State) (b : BayIdx) : OwnersFrame s (packGone s b) := by
  unfold packGone
  split
  · exact .refl s
  · exact .refl s
  · exact owners_updBay s b _
  all_goals first | exact owners_removePack s b | exact owners_packLeaves s b

theorem owners_packSensed (s : State) (b : BayIdx) : OwnersFrame s (packSensed s b) := by
  unfold packSensed
  split
  · exact owners_updBay s b _
  · exact .refl s

theorem owners_presenceCheck (s : State) (b : BayIdx) : OwnersFrame s (presenceCheck s b) := by
  unfold presenceCheck
  refine OwnersFrame.trans (owners_updBay s b fun x => { x with presencePending := false }) ?_
  dsimp only
  split
  · refine (owners_packSensed _ b).trans ?_
    split
    · exact owners_updBay _ b _
    · exact .refl _
  · exact owners_packGone _ b

theorem owners_updRecordOfId (s : State) (id : PackId) (f : PackRecord → PackRecord) : OwnersFrame s (updRecordOfId s id f) :=
  owners_packs s _

theorem owners_countHandedIn (s : State) : OwnersFrame s (countHandedIn s) := owners_packs s _

theorem owners_arrive (s : State) : OwnersFrame s (arrive s) := by
  unfold arrive
  split
  · split
    · exact .refl s
    · dsimp only
      split
      · exact (owners_updRecordOfId s _ _).trans ((owners_countHandedIn _).trans (frame_queueHandover _ _ _).owners)
      · exact owners_updRecordOfId s _ _
  · refine OwnersFrame.trans ?_ (frame_pulseRow _ _).owners
    split
    · exact (show OwnersFrame s (addRecord s (unidentifiedRecord s)) from owners_packs s _).trans (owners_countHandedIn _)
    · exact .refl s

theorem owners_feedComplete (s : State) : OwnersFrame s (feedComplete s) := by
  unfold feedComplete
  split
  · exact .refl s
  · rename_i id rest _
    split
    · exact .refl s
    · rename_i r _
      have counted : OwnersFrame s
          (updCounters (addShredded (removeRecordOfId s id) r.residual) fun c => { c with shredded := c.shredded + 1 }) :=
        owners_packs s _
      split
      · exact counted.trans (owners_updZone _ _)
      · exact .refl s

theorem owners_detectorRises (s : State) (n : Fin 4) : OwnersFrame s (detectorRises s n) := by
  unfold detectorRises
  dsimp only
  split
  · exact (owners_updFire s _).trans (owners_updFire _ _)
  · exact owners_updFire s _

theorem owners_detectorFalls (s : State) (n : Fin 4) : OwnersFrame s (detectorFalls s n) := by
  unfold detectorFalls
  dsimp only
  split
  · exact (owners_updFire s _).trans (owners_updFire _ _)
  · exact owners_updFire s _

theorem owners_contactCloses (s : State) (b : BayIdx) : OwnersFrame s (contactCloses s b) := by
  unfold contactCloses
  exact owners_updBay s b _

theorem owners_contactOpens (s : State) (b : BayIdx) : OwnersFrame s (contactOpens s b) := by
  unfold contactOpens
  exact owners_updBay s b _

theorem owners_takeInputEvent (s : State) (e : InputEvent) : OwnersFrame s (takeInputEvent s e) := by
  cases e with
  | presence b => exact owners_presenceCheck s b
  | rising x =>
    cases x with
    | pp b => exact owners_packSensed s b
    | kf b => exact owners_contactCloses s b
    | d n => exact owners_detectorRises s n
    | ar => exact owners_arrive s
    | fc => exact owners_feedComplete s
    | dc => exact .refl s
    | g n => exact .refl s
  | falling x =>
    cases x with
    | pp b => exact owners_packGone s b
    | kf b => exact owners_contactOpens s b
    | d n => exact owners_detectorFalls s n
    | ar => exact .refl s
    | fc => exact .refl s
    | dc => exact .refl s
    | g n => exact .refl s

theorem owners_takeInputEvents (events : List InputEvent) (s : State) :
    OwnersFrame s (events.foldl (fun u e => settle (takeInputEvent u e)) s) := by
  induction events generalizing s with
  | nil => exact .refl s
  | cons e events ih =>
    have settled := (owners_takeInputEvent s e).trans (frame_settle (takeInputEvent s e)).owners
    rw [List.foldl_cons]
    generalize settle (takeInputEvent s e) = u at settled
    exact settled.trans (ih u)

/-- What pushed levels leave alone beside the measurement. -/
theorem pushInputs_rest (levels : List (DiscreteInput × Bool)) (s : State) :
    (levels.foldl pushInput s).now = s.now ∧ (levels.foldl pushInput s).loader = s.loader ∧
      (levels.foldl pushInput s).peers = s.peers ∧ (levels.foldl pushInput s).startUntil = s.startUntil ∧
      (levels.foldl pushInput s).bus = s.bus := by
  induction levels generalizing s with
  | nil => exact ⟨rfl, rfl, rfl, rfl, rfl⟩
  | cons x levels ih => simpa using ih (pushInput s x)

/-- Levels of unconfigured inputs push nothing. -/
theorem pushInputs_of_unconfigured {levels : List (DiscreteInput × Bool)} (h : ∀ x ∈ levels, inputConfigured s x.1 = false) :
    levels.foldl pushInput s = s ∧ (levels.filterMap fun x => inputEvent s s x.1) = [] := by
  induction levels with
  | nil => exact ⟨rfl, rfl⟩
  | cons x levels ih =>
    have off := h x (.head _)
    obtain ⟨hp, he⟩ := ih fun y hy => h y (.tail _ hy)
    refine ⟨?_, ?_⟩
    · rw [List.foldl_cons, show pushInput s x = s by simp [pushInput, off]]
      exact hp
    · rw [List.filterMap_cons_none (by simp [inputEvent, off])]
      exact he

/-- An event that raised nothing moves no mark. -/
theorem markFirstOut_self (s : State) : markFirstOut s s = s := by
  unfold markFirstOut
  cases h : latchedRaised s with
  | true => rfl
  | false =>
    have none_raised : lowestLatched s = none := by
      unfold latchedRaised at h
      unfold lowestLatched
      rw [List.find?_eq_none]
      rw [List.any_eq_false] at h
      exact h
    rw [none_raised]
    rfl

end Sys2Proof.Machine

open Sys2Proof Sys2Proof.Machine

/-- Settles O12: the pushed levels decide the comparators, their owners and the reactions leave them. -/
theorem discreteInputsMeasure : Obligations.DiscreteInputsMeasure := by
  unfold Obligations.DiscreteInputsMeasure
  refine ⟨?_, fun s => ⟨fun b => ⟨rfl, rfl⟩, fun _ => rfl, rfl, rfl, rfl, fun _ => rfl⟩, ?_, ?_, ?_, ?_, ?_, ?_⟩
  · intro levels s h
    obtain ⟨hp, he⟩ := pushInputs_of_unconfigured h
    have answer : exec (.discreteArrival levels) s = .next (if inService s = true then markFirstOut s s else s) := by
      simp only [exec, execDiscreteArrival, whenServing, hp, he, List.foldl_nil]
    rw [answer, markFirstOut_self, ite_self]
  · intro pulses s bare
    simp [exec, execSpArrival, whenServing, bare]
  · intro s none_due
    simp [exec, execSecondBoundary, whenServing, none_due]
  · intro s hs bare hd
    have bare' : hasZone { s with secondsDue := s.secondsDue - 1 } = false := bare
    simp [exec, execSecondBoundary, whenServing, hs, bare', hd]
  · intro levels s hs once
    generalize hp : levels.foldl pushInput s = pushed
    generalize he : (levels.filterMap fun x => inputEvent s pushed x.1).foldl (fun u e => settle (takeInputEvent u e)) pushed = v
    have answer : exec (.discreteArrival levels) s = .next (markFirstOut s v) := by
      simp only [exec, execDiscreteArrival, whenServing, hs, hp, he, if_true]
    have owned : OwnersFrame pushed (markFirstOut s v) := by
      rw [← he]
      exact (owners_takeInputEvents _ _).trans (frame_markFirstOut _ _).owners
    generalize markFirstOut s v = t at answer owned
    have decided : ∀ x, comparatorOf pushed x = decidedBy s levels x (comparatorOf s x) := fun x => hp ▸ comparatorOf_pushInputs once s x
    have inputs : InputFrame s pushed := hp ▸ inputFrame_pushInputs levels s
    obtain ⟨hnow, hloader, hpeers, hstart, hbus⟩ := hp ▸ pushInputs_rest levels s
    refine ⟨t, answer, fun b => ⟨?_, ?_, ?_⟩, fun n => ?_, fun n => ?_, ?_, ?_, ?_, ?_, ?_⟩
    · rw [← show comparatorOf s (.pp b) = s.meas[b].pp from rfl, ← decided (.pp b)]
      have kept := congrArg BayMeasure.pp (owned.meas b)
      exact kept
    · rw [← show comparatorOf s (.kf b) = s.meas[b].kf from rfl, ← decided (.kf b)]
      have kept := congrArg BayMeasure.kf (owned.meas b)
      exact kept
    · have e := congrArg (fun m : BayMeasure =>
        ({ m with pp := s.meas[b].pp, kf := s.meas[b].kf, thresholds := s.meas[b].thresholds } : BayMeasure)) (owned.meas b)
      have k := congrArg (fun m : BayMeasure => ({ m with thresholds := s.meas[b].thresholds } : BayMeasure)) (inputs.meas b)
      exact e.trans k
    · rw [owned.zmeas]; exact decided (.d n)
    · rw [owned.zmeas]; exact decided (.g n)
    · rw [owned.zmeas]; exact decided .dc
    · rw [owned.zmeas]; exact decided .ar
    · rw [owned.zmeas]; exact decided .fc
    · rw [owned.zmeas]; exact inputs.zmeas
    · exact ⟨owned.now.trans hnow, owned.loader.trans hloader, owned.peers.trans hpeers, owned.startUntil.trans hstart,
        owned.replies.trans (congrArg Bus.replies hbus), owned.sequence.trans (congrArg Bus.sequence hbus)⟩
  · intro pulses older current s hs hz bins
    refine ⟨?_, frame_settle _⟩
    simp [exec, execSpArrival, whenServing, hs, hz, updZMeas, bins]
  · intro oldest newer s hs hz hd bins
    refine ⟨?_, frame_settle _⟩
    have hz' : hasZone { s with secondsDue := s.secondsDue - 1 } = true := hz
    simp [exec, execSecondBoundary, whenServing, hs, hz', hd, updZMeas, bins]
end

section
/-! SUPPORT. An arrival of one level that makes an input of a bay rise or fall; settles O13. -/

namespace Sys2Proof.Machine

variable {c : Instr} {s t u : State} {b : BayIdx} {x : DiscreteInput} {l : Bool}

/-! ### The event of one level -/

/-- Only the count of a pending presence check is written beside the comparators. -/
theorem bays_pushInput (h : ∀ b, x = .pp b → s.bays[b].presencePending = false) : (pushInput s (x, l)).bays = s.bays := by
  unfold pushInput
  dsimp only
  split
  · cases x with
    | pp b =>
      dsimp only
      rw [if_neg]
      · rfl
      · rw [updMeas_bays, h b rfl]; decide
    | kf b => rfl
    | d n => rfl
    | dc => rfl
    | ar => rfl
    | fc => rfl
    | g n => rfl
  · rfl

theorem inputEvent_of_rises (h : rises s x) (free : ∀ b, x = .pp b → s.bays[b].presencePending = false) :
    inputEvent s (pushInput s (x, true)) x = some (.rising x) := by
  obtain ⟨-, configured, low, high⟩ := h
  unfold inputEvent
  rw [inputConfigured_pushInput, if_pos configured]
  cases x with
  | pp b =>
    dsimp only
    rw [bays_pushInput free, free b rfl, low, high]
    rfl
  | kf b => simp [low, high]
  | d n => simp [low, high]
  | dc => simp [low, high]
  | ar => simp [low, high]
  | fc => simp [low, high]
  | g n => simp [low, high]

theorem inputEvent_of_falls (h : falls s x) (free : ∀ b, x = .pp b → s.bays[b].presencePending = false) :
    inputEvent s (pushInput s (x, false)) x = some (.falling x) := by
  obtain ⟨-, configured, high, low⟩ := h
  unfold inputEvent
  rw [inputConfigured_pushInput, if_pos configured]
  cases x with
  | pp b =>
    dsimp only
    rw [bays_pushInput free, free b rfl, low, high]
    rfl
  | kf b => simp [low, high]
  | d n => simp [low, high]
  | dc => simp [low, high]
  | ar => simp [low, high]
  | fc => simp [low, high]
  | g n => simp [low, high]

/-- The owner of a crossing input acts, and the reactions follow. -/
theorem arrival_of_event {e : InputEvent} (hs : inService s = true) (h : inputEvent s (pushInput s (x, l)) x = some e)
    (hu : takeInputEvent (pushInput s (x, l)) e = u) : AnswersArrival (exec (.discreteArrival [(x, l)]) s) s u := by
  refine ⟨?_, (frame_settle u).trans (frame_markFirstOut s _)⟩
  rw [discreteArrival_single hs h, hu]

theorem arrival_of_rises (h : rises s x) (hu : takeInputEvent (pushInput s (x, true)) (.rising x) = u)
    (free : ∀ b, x = .pp b → s.bays[b].presencePending = false := by nofun) :
    AnswersArrival (exec (.discreteArrival [(x, true)]) s) s u := arrival_of_event h.1 (inputEvent_of_rises h free) hu

theorem arrival_of_falls (h : falls s x) (hu : takeInputEvent (pushInput s (x, false)) (.falling x) = u)
    (free : ∀ b, x = .pp b → s.bays[b].presencePending = false := by nofun) :
    AnswersArrival (exec (.discreteArrival [(x, false)]) s) s u := arrival_of_event h.1 (inputEvent_of_falls h free) hu

theorem free_of_pp (h : s.bays[b].presencePending = false) : ∀ d, DiscreteInput.pp b = .pp d → s.bays[d].presencePending = false := by
  rintro _ ⟨⟩
  exact h

/-! ### One bay written -/

theorem updBay_congr {f g : Bay → Bay} (h : f s.bays[b] = g s.bays[b]) : updBay s b f = updBay s b g := by
  unfold updBay
  rw [h]

theorem updBay_of_eq {f : Bay → Bay} (h : f s.bays[b] = s.bays[b]) : updBay s b f = s := by
  unfold updBay
  rw [h]
  simp

theorem bay_updBay (s : State) (b : BayIdx) (f : Bay → Bay) : (updBay s b f).bays[b] = f s.bays[b] := by
  rw [bays_updBay, if_pos rfl]

/-! ### PP -/

theorem packSensed_of_empty (h : s.bays[b].state = .empty) :
    packSensed s b = updBay s b fun x => { x with state := .loaded, removed := false } := if_pos h

theorem packSensed_of_not_empty (h : s.bays[b].state ≠ .empty) : packSensed s b = s := if_neg h

theorem packGone_of_loaded (h : s.bays[b].state = .loaded) :
    packGone s b = updBay s b fun x => { x with state := .empty, foundAtStart := false } := by
  unfold packGone
  rw [h]

theorem packGone_of_bare (h : s.bays[b].state = .empty ∨ s.bays[b].state = .quarantine) : packGone s b = s := by
  unfold packGone
  rcases h with h | h <;> rw [h]

theorem packGone_of_releasing (h : s.bays[b].state = .releasing) : packGone s b = packLeaves s b := by
  unfold packGone
  rw [h]

theorem packGone_of_holdsPack (h : holdsPack s b = true) (away : s.bays[b].state ≠ .releasing) : packGone s b = removePack s b := by
  unfold holdsPack at h
  unfold packGone
  generalize s.bays[b].state = st at h away
  cases st with
  | empty => simp at h
  | loaded => simp at h
  | quarantine => simp at h
  | releasing => exact absurd rfl away
  | admitted => rfl
  | connecting => rfl
  | discharging => rfl
  | resting => rfl
  | held => rfl
  | safe => rfl
  | offering => rfl

theorem coilOff_packs (s : State) (b : BayIdx) : (coilOff s b).packs = s.packs := by
  unfold coilOff
  split <;> rfl

theorem abandonIfOffering_packs (s : State) (b : BayIdx) : (abandonIfOffering s b).packs = s.packs := by
  unfold abandonIfOffering
  split <;> rfl

theorem coilOff_bay (s : State) (b : BayIdx) : (coilOff s b).bays[b].state = s.bays[b].state ∧
    (s.bays[b].state = .connecting ∨ s.bays[b].state = .discharging → (coilOff s b).bays[b].window = .opening (s.now + 400)) := by
  unfold coilOff coilOn
  split
  · rw [bay_updBay]
    exact ⟨rfl, fun _ => rfl⟩
  · rename_i off
    exact ⟨rfl, fun on => absurd (decide_eq_true on) off⟩

/-- Unexpected removal (R28, R56, R62): what it leaves. -/
theorem removePack_facts (s : State) (b : BayIdx) :
    (removePack s b).bays[b].state = .empty ∧ (removePack s b).bays[b].removed = true ∧ (removePack s b).meas[b].thresholds = none ∧
      (removePack s b).packs.records =
        modifyFirst (isAtBay b) (fun r => { r with stage := .missing, stageSince := nodeTime s, acc := none, deadline := none })
          s.packs.records ∧
      (removePack s b).packs.counters = s.packs.counters ∧
      (∀ r, recordOfBay s b = some r →
        (removePack s b).packs.dischargedTotal = min 281474976710655 (s.packs.dischargedTotal + r.edis.toNat)) ∧
      (s.bays[b].state = .offering → (removePack s b).handover[b].entry = .none) ∧
      (s.bays[b].state = .connecting ∨ s.bays[b].state = .discharging →
        (removePack s b).bays[b].window = .opening (s.now + 400)) := by
  generalize hv : abandonIfOffering (coilOff s b) b = v
  have packs : v.packs = s.packs := by rw [← hv, abandonIfOffering_packs, coilOff_packs]
  have now : v.now = s.now := by
    rw [← hv]
    exact (frame_abandonIfOffering _ b).now.trans (frame_coilOff s b).now
  have bays : v.bays = (coilOff s b).bays := by rw [← hv, abandonIfOffering_bays]
  have time : nodeTime v = nodeTime s := by unfold nodeTime; rw [nodeCount, now]; rfl
  have removed : removePack s b =
      updBay (emptyBay (updRecordOfBay (countEnergyOfBay v b) b fun r =>
        { toStage (countEnergyOfBay v b) .missing r with acc := none, deadline := none }) b) b fun x => { x with removed := true } := by
    rw [← hv]; rfl
  have marked : nodeTime (countEnergyOfBay v b) = nodeTime s := time
  rw [removed]
  refine ⟨by simp [emptyBay], by simp, by simp [emptyBay], ?_, ?_, ?_, ?_, ?_⟩
  · show modifyFirst (isAtBay b) _ v.packs.records = _
    rw [packs]
    simp only [toStage, marked]
  · show v.packs.counters = _
    rw [packs]
  · intro r hr
    have record : recordOfBay v b = some r := by unfold recordOfBay; rw [packs]; exact hr
    show min Config.totalMax (v.packs.dischargedTotal + (((recordOfBay v b).map PackRecord.edis).getD 0).toNat) = _
    rw [record, packs]
    rfl
  · intro offering
    show v.handover[b].entry = .none
    have still : (coilOff s b).bays[b].state = .offering := (coilOff_bay s b).1.trans offering
    rw [← hv, abandonIfOffering, if_pos still]
    simp [abandonOffer]
  · intro on
    have window : (coilOff s b).bays[b].window = .opening (s.now + 400) := (coilOff_bay s b).2 on
    rw [← bays] at window
    simpa [emptyBay, countEnergyOfBay, updRecordOfBay, updRecords, updPacks] using window

/-- A pack leaves a RELEASING bay (R46, R55, R62, R87): what it leaves. -/
theorem packLeaves_facts {r : PackRecord} {id : PackId} (hr : recordOfBay s b = some r) (hid : r.id = some id) :
    (packLeaves s b).bays[b].state = .empty ∧ (packLeaves s b).bays[b].removed = s.bays[b].removed ∧
      (packLeaves s b).meas[b].thresholds = none ∧
      (packLeaves s b).packs.records =
        modifyFirst (isAtBay b)
          (fun x =>
            { x with
              stage := .inTransit, stageSince := nodeTime s, acc := none
              origin := if r.dest = some s.loader.address then some s.loader.address else x.origin }) s.packs.records ∧
      (packLeaves s b).packs.counters = s.packs.counters ∧
      (packLeaves s b).packs.dischargedTotal = min 281474976710655 (s.packs.dischargedTotal + r.edis.toNat) ∧
      (r.dest = some s.loader.address → (packLeaves s b).zone.queue = s.zone.queue ++ [id] ∧ (packLeaves s b).handover[b].claim = false) ∧
      (r.dest ≠ some s.loader.address → (packLeaves s b).zone.queue = s.zone.queue ∧ (packLeaves s b).handover = s.handover) := by
  generalize hv : updRecordOfBay (countEnergyOfBay s b) b (fun x =>
    { x with
      stage := .inTransit, stageSince := nodeTime s, acc := none
      origin := if r.dest = some s.loader.address then some s.loader.address else x.origin }) = v
  have left : packLeaves s b = emptyBay (if r.dest = some s.loader.address then
      updZone (updHandover v b fun x => { x with claim := false }) fun z => { z with queue := z.queue ++ [id] } else v) b := by
    have dest : (recordOfBay (countEnergyOfBay s b) b).bind PackRecord.dest = r.dest := by
      show (recordOfBay s b).bind _ = _
      rw [hr]; rfl
    have name : (recordOfBay (countEnergyOfBay s b) b).bind PackRecord.id = some id := by
      show (recordOfBay s b).bind _ = _
      rw [hr]; exact hid
    unfold packLeaves
    simp only [dest, name, beq_iff_eq]
    rw [← hv]
    rfl
  have packs : (packLeaves s b).packs = v.packs := by
    rw [left]
    split <;> rfl
  have bays : (packLeaves s b).bays = (emptyBay s b).bays := by
    rw [left, ← hv]
    split <;> rfl
  have meas : (packLeaves s b).meas = (emptyBay s b).meas := by
    rw [left, ← hv]
    split <;> rfl
  rw [packs, bays, meas]
  refine ⟨by simp [emptyBay], by simp [emptyBay], by simp [emptyBay], by rw [← hv]; rfl, by rw [← hv]; rfl, ?_, ?_, ?_⟩
  · rw [← hv]
    show min Config.totalMax (s.packs.dischargedTotal + (((recordOfBay s b).map PackRecord.edis).getD 0).toNat) = _
    rw [hr]
    rfl
  · intro inside
    rw [left, if_pos inside, ← hv]
    exact ⟨rfl, by simp [emptyBay]⟩
  · intro outside
    rw [left, if_neg outside, ← hv]
    exact ⟨rfl, rfl⟩

/-! ### KF (R31, R32) -/

theorem contactCloses_of_on (h : coilOn s b = true) : contactCloses s b = updBay s b fun x => { x with mismatch := false } :=
  updBay_congr (by rw [h]; rfl)

theorem contactCloses_of_opening {w : Nat} (h : coilOn s b = false) (hw : s.bays[b].window = .opening w) : contactCloses s b = s :=
  updBay_of_eq (by rw [h, hw]; rfl)

theorem contactCloses_of_off (h : coilOn s b = false) (hw : ∀ w, s.bays[b].window ≠ .opening w) :
    contactCloses s b = updBay s b fun x => { x with mismatch := true } := by
  refine updBay_congr ?_
  rw [h]
  cases window : s.bays[b].window with
  | opening w => exact absurd window (hw w)
  | none => rfl
  | closing w => rfl

theorem contactOpens_of_closing {w : Nat} (h : coilOn s b = true) (hw : s.bays[b].window = .closing w) : contactOpens s b = s :=
  updBay_of_eq (by rw [h, hw]; rfl)

theorem contactOpens_of_on (h : coilOn s b = true) (hw : ∀ w, s.bays[b].window ≠ .closing w) :
    contactOpens s b = updBay s b fun x => { x with mismatch := true } := by
  refine updBay_congr ?_
  rw [h]
  cases window : s.bays[b].window with
  | closing w => exact absurd window (hw w)
  | none => rfl
  | opening w => rfl

theorem contactOpens_of_opening {w : Nat} (h : coilOn s b = false) (hw : s.bays[b].window = .opening w) :
    contactOpens s b = updBay s b fun x => { x with mismatch := false, window := .none } :=
  updBay_congr (by rw [h, hw]; rfl)

theorem contactOpens_of_off (h : coilOn s b = false) (hw : ∀ w, s.bays[b].window ≠ .opening w) :
    contactOpens s b = updBay s b fun x => { x with mismatch := false } := by
  refine updBay_congr ?_
  rw [h]
  cases window : s.bays[b].window with
  | opening w => exact absurd window (hw w)
  | none => rfl
  | closing w => rfl

end Sys2Proof.Machine

open Sys2Proof Sys2Proof.Machine

/-- Settles O13: each crossing reaches its owner's act, which depends on the bay as it stood before the arrival. -/
theorem bayInputsCross : Obligations.BayInputsCross := by
  unfold Obligations.BayInputsCross
  intro b s
  refine ⟨?_, ?_, ?_, ?_, ?_⟩
  · intro h free empty
    refine arrival_of_rises h (packSensed_of_empty ?_) (free_of_pp free)
    rw [bays_pushInput (free_of_pp free)]; exact empty
  · intro h free full
    refine arrival_of_rises h (packSensed_of_not_empty ?_) (free_of_pp free)
    rw [bays_pushInput (free_of_pp free)]; exact full
  · intro h free
    have bays : (pushInput s (.pp b, false)).bays = s.bays := bays_pushInput (free_of_pp free)
    have time : nodeTime (pushInput s (.pp b, false)) = nodeTime s := by simp [nodeTime, nodeCount]
    refine ⟨fun loaded => ?_, fun bare => ?_, fun holds away => ?_, fun r id releasing hr hid => ?_⟩
    · refine arrival_of_falls h (packGone_of_loaded ?_) (free_of_pp free)
      rw [bays]; exact loaded
    · refine arrival_of_falls h (packGone_of_bare ?_) (free_of_pp free)
      rw [bays]; exact bare
    · refine ⟨_, arrival_of_falls h (packGone_of_holdsPack ?_ ?_) (free_of_pp free), ?_⟩
      · unfold holdsPack; rw [bays]; exact holds
      · rw [bays]; exact away
      · have facts := removePack_facts (pushInput s (.pp b, false)) b
        rw [bays, time, pushInput_packs, pushInput_now, recordOfBay_pushInput] at facts
        exact facts
    · refine ⟨_, arrival_of_falls h (packGone_of_releasing ?_) (free_of_pp free), ?_⟩
      · rw [bays]; exact releasing
      · have record : recordOfBay (pushInput s (.pp b, false)) b = some r := by rw [recordOfBay_pushInput]; exact hr
        have facts := packLeaves_facts record hid
        rw [bays, time, pushInput_packs, pushInput_loader, pushInput_zone, pushInput_handover] at facts
        exact facts
  · intro h
    have bays : (pushInput s (.kf b, true)).bays = s.bays := bays_pushInput nofun
    have coil : coilOn (pushInput s (.kf b, true)) b = coilOn s b := by unfold coilOn; rw [bays]
    exact ⟨fun on => arrival_of_rises h (contactCloses_of_on (coil.trans on)),
      fun u off opening => arrival_of_rises h (contactCloses_of_opening (w := u) (coil.trans off) (by rw [bays]; exact opening)),
      fun off other => arrival_of_rises h (contactCloses_of_off (coil.trans off) (by rw [bays]; exact other))⟩
  · intro h
    have bays : (pushInput s (.kf b, false)).bays = s.bays := bays_pushInput nofun
    have coil : coilOn (pushInput s (.kf b, false)) b = coilOn s b := by unfold coilOn; rw [bays]
    exact ⟨fun u on closing => arrival_of_falls h (contactOpens_of_closing (w := u) (coil.trans on) (by rw [bays]; exact closing)),
      fun on other => arrival_of_falls h (contactOpens_of_on (coil.trans on) (by rw [bays]; exact other)),
      fun u off opening => arrival_of_falls h (contactOpens_of_opening (w := u) (coil.trans off) (by rw [bays]; exact opening)),
      fun off other => arrival_of_falls h (contactOpens_of_off (coil.trans off) (by rw [bays]; exact other))⟩
end

section
/-! SUPPORT. The owners of the zone's inputs; settles O14. -/

namespace Sys2Proof.Machine

variable {c : Instr} {s t u : State} {b : BayIdx} {x : DiscreteInput} {l : Bool}

/-! ### AR (R59, R83, R84) -/

theorem slotStage_pushInput (s : State) (x : DiscreteInput × Bool) (id : PackId) : slotStage (pushInput s x) id = slotStage s id := by
  unfold slotStage
  rw [recordOfId_pushInput]

theorem awaitingSlot_pushInput (s : State) (x : DiscreteInput × Bool) : awaitingSlot (pushInput s x) = awaitingSlot s := by
  unfold awaitingSlot
  simp only [slotStage_pushInput, pushInput_zone]

theorem nodeTime_pushInput (s : State) (x : DiscreteInput × Bool) : nodeTime (pushInput s x) = nodeTime s := by
  simp [nodeTime, nodeCount]

theorem nodeCount_pushInput (s : State) (x : DiscreteInput × Bool) : nodeCount (pushInput s x) = nodeCount s := by
  simp [nodeCount]

/-- The slot behind those that wait for no arrival is the one that an arrival meets. -/
theorem awaitingSlot_of_append {ahead behind : List PackId} {id : PackId} (hq : s.zone.queue = ahead ++ id :: behind)
    (before : ∀ x ∈ ahead, slotStage s x ≠ some .reserved ∧ slotStage s x ≠ some .inTransit)
    (here : slotStage s id = some .reserved ∨ slotStage s id = some .inTransit) : awaitingSlot s = some id := by
  unfold awaitingSlot
  rw [hq, List.find?_append, List.find?_eq_none.2, Option.none_or, List.find?_cons_of_pos (by simpa using here)]
  intro x hx
  simpa using before x hx

theorem awaitingSlot_eq_none (h : ∀ x ∈ s.zone.queue, slotStage s x ≠ some .reserved ∧ slotStage s x ≠ some .inTransit) :
    awaitingSlot s = none := by
  unfold awaitingSlot
  rw [List.find?_eq_none]
  intro x hx
  simpa using h x hx

theorem arrive_of_reserved {id : PackId} {r : PackRecord} (ha : awaitingSlot s = some id) (hr : recordOfId s id = some r)
    (stage : r.stage = .reserved) :
    arrive s = queueHandover
      (updCounters
        (updRecordOfId s id fun x => { x with stage := .waiting, stageSince := nodeTime s, deadline := none })
        fun c => { c with handedIn := c.handedIn + 1 })
      (r.origin.getD 0) (.landed id) := by
  unfold arrive
  simp only [ha, hr, stage, if_true]
  rfl

theorem arrive_of_inTransit {id : PackId} {r : PackRecord} (ha : awaitingSlot s = some id) (hr : recordOfId s id = some r)
    (stage : r.stage = .inTransit) :
    arrive s = updRecordOfId s id fun x => { x with stage := .waiting, stageSince := nodeTime s, deadline := none } := by
  unfold arrive
  simp only [ha, hr, stage]
  rfl

theorem arrive_of_none (ha : awaitingSlot s = none) :
    arrive s = pulseRow
      (if s.packs.records.length < 24 then
        updCounters (addRecord s (unidentifiedRecord s)) fun c => { c with handedIn := c.handedIn + 1 } else s) .ac3 := by
  unfold arrive
  rw [ha]
  have free : recordFree s = true ↔ s.packs.records.length < 24 := decide_eq_true_iff
  simp only [free]
  rfl

/-! ### FC (R60, R108) -/

theorem feedComplete_of_empty (h : s.zone.queue = []) : feedComplete s = s := by
  unfold feedComplete
  rw [h]

theorem feedComplete_of_feeding {id : PackId} {rest : List PackId} {r : PackRecord} (hq : s.zone.queue = id :: rest)
    (hr : recordOfId s id = some r) (stage : r.stage = .feeding) :
    feedComplete s = updZone (updCounters (addShredded (removeRecordOfId s id) r.residual) fun c => { c with shredded := c.shredded + 1 })
      fun z => { z with queue := z.queue.drop 1, feedUntil := none } := by
  unfold feedComplete
  simp only [hq, hr, stage, if_true]

theorem feedComplete_of_not_feeding {id : PackId} {rest : List PackId} {r : PackRecord} (hq : s.zone.queue = id :: rest)
    (hr : recordOfId s id = some r) (stage : r.stage ≠ .feeding) : feedComplete s = s := by
  unfold feedComplete
  simp only [hq, hr, if_neg stage]

/-! ### Detectors (R112 to R115) -/

theorem det_updDetector (s : State) (n m : Fin 4) (f : Detector → Detector) :
    (updDetector s n f).fire.det[m] = if m = n then f s.fire.det[n] else s.fire.det[m] := by
  by_cases h : m = n
  · subst h; simp [updDetector]
  · have away : n.val ≠ m.val := fun e => h (Fin.ext e.symm)
    simp [updDetector, h, away]

/-- Fewer than two detectors are active where no two are. -/
theorem activeCount_lt_two_iff (s : State) :
    activeCount s < 2 ↔ ¬∃ m k : Fin 4, m ≠ k ∧ s.fire.det[m].active = true ∧ s.fire.det[k].active = true := by
  have count : ∀ f : Fin 4 → Bool, ((List.finRange 4).filter f).length < 2 ↔ ¬∃ m k : Fin 4, m ≠ k ∧ f m = true ∧ f k = true := by
    decide
  exact count fun n => s.fire.det[n].active

theorem coincident_iff (s : State) (n : Fin 4) :
    coincident s n = true ↔ ∃ m : Fin 4, m ≠ n ∧ s.fire.det[m].active = true ∧
      ∃ t, s.fire.det[m].onset = some t ∧ (nodeTime s - t).toNat ≤ (cfg s).window * 100 := by
  unfold coincident
  rw [List.any_eq_true]
  constructor
  · rintro ⟨m, -, h⟩
    rw [Bool.and_eq_true, Bool.and_eq_true, decide_eq_true_iff] at h
    obtain ⟨⟨away, active⟩, near⟩ := h
    cases onset : s.fire.det[m].onset with
    | none => rw [onset] at near; cases near
    | some t =>
      rw [onset] at near
      exact ⟨m, away, active, t, onset, of_decide_eq_true near⟩
  · rintro ⟨m, away, active, t, onset, near⟩
    refine ⟨m, List.mem_finRange m, ?_⟩
    rw [Bool.and_eq_true, Bool.and_eq_true, decide_eq_true_iff, onset]
    exact ⟨⟨away, active⟩, decide_eq_true near⟩

/-- A detector that rises: its record, and FD1's part at a coincidence. -/
theorem detectorRises_facts (s : State) (n : Fin 4) :
    (detectorRises s n).fire.det[n] =
        { active := true, onset := some (nodeTime s), persistUntil := some (nodeCount s + (cfg s).tconf * 100), persisted := false } ∧
      (∀ m : Fin 4, m ≠ n → (detectorRises s n).fire.det[m] = s.fire.det[m]) ∧
      ((detectorRises s n).fire.fd1 = true ↔
        s.fire.fd1 = true ∨ ∃ m : Fin 4, m ≠ n ∧ s.fire.det[m].active = true ∧
          ∃ t, s.fire.det[m].onset = some t ∧ (nodeTime s - t).toNat ≤ (cfg s).window * 100) := by
  generalize hv : updDetector s n (fun _ =>
    { active := true, onset := some (nodeTime s), persistUntil := some (nodeCount s + (cfg s).tconf * 100), persisted := false }) = v
  have rises : detectorRises s n = if coincident v n then updFire v fun f => { f with fd1 := true } else v := by rw [← hv]; rfl
  have det (m : Fin 4) : (detectorRises s n).fire.det[m] = v.fire.det[m] := by rw [rises]; split <;> rfl
  have near : coincident v n = true ↔ ∃ m : Fin 4, m ≠ n ∧ s.fire.det[m].active = true ∧
      ∃ t, s.fire.det[m].onset = some t ∧ (nodeTime s - t).toNat ≤ (cfg s).window * 100 := by
    rw [coincident_iff]
    refine exists_congr fun m => and_congr_right fun away => ?_
    have kept : v.fire.det[m] = s.fire.det[m] := by rw [← hv, det_updDetector, if_neg away]
    rw [kept, ← hv]
    rfl
  refine ⟨?_, fun m away => ?_, ?_⟩
  · rw [det, ← hv, det_updDetector, if_pos rfl]
  · rw [det, ← hv, det_updDetector, if_neg away]
  · rw [← near, rises]
    have fd1 : v.fire.fd1 = s.fire.fd1 := by rw [← hv]; rfl
    by_cases h : coincident v n = true
    · simp [h]
    · rw [if_neg h, fd1]; simp [h]

/-- A detector that falls: its record, and FD1's part where fewer than two are left. -/
theorem detectorFalls_facts (s : State) (n : Fin 4) :
    (detectorFalls s n).fire.det[n] = { active := false, onset := none, persistUntil := none, persisted := false } ∧
      (∀ m : Fin 4, m ≠ n → (detectorFalls s n).fire.det[m] = s.fire.det[m]) ∧
      ((detectorFalls s n).fire.fd1 = true ↔
        s.fire.fd1 = true ∧ ∃ m k : Fin 4, m ≠ n ∧ k ≠ n ∧ m ≠ k ∧ s.fire.det[m].active = true ∧ s.fire.det[k].active = true) := by
  generalize hv : updDetector s n (fun _ => detectorReset) = v
  have falls : detectorFalls s n = if activeCount v < 2 then updFire v fun f => { f with fd1 := false } else v := by rw [← hv]; rfl
  have det (m : Fin 4) : (detectorFalls s n).fire.det[m] = v.fire.det[m] := by rw [falls]; split <;> rfl
  have others {m : Fin 4} (away : m ≠ n) : v.fire.det[m] = s.fire.det[m] := by rw [← hv, det_updDetector, if_neg away]
  have own : v.fire.det[n] = detectorReset := by rw [← hv, det_updDetector, if_pos rfl]
  have few : activeCount v < 2 ↔
      ¬∃ m k : Fin 4, m ≠ n ∧ k ≠ n ∧ m ≠ k ∧ s.fire.det[m].active = true ∧ s.fire.det[k].active = true := by
    rw [activeCount_lt_two_iff]
    have away_of_active {m : Fin 4} (active : v.fire.det[m].active = true) : m ≠ n := by
      rintro rfl
      rw [own] at active
      cases active
    refine not_congr ⟨?_, ?_⟩
    · rintro ⟨m, k, apart, hm, hk⟩
      have am := away_of_active hm
      have ak := away_of_active hk
      exact ⟨m, k, am, ak, apart, others am ▸ hm, others ak ▸ hk⟩
    · rintro ⟨m, k, am, ak, apart, hm, hk⟩
      exact ⟨m, k, apart, (others am).symm ▸ hm, (others ak).symm ▸ hk⟩
  refine ⟨by rw [det, own]; rfl, fun m away => by rw [det, others away], ?_⟩
  have fd1 : v.fire.fd1 = s.fire.fd1 := by rw [← hv]; rfl
  rw [falls]
  by_cases h : activeCount v < 2
  · rw [if_pos h]
    exact ⟨nofun, fun k => absurd k.2 (few.1 h)⟩
  · rw [if_neg h, fd1]
    exact ⟨fun k => ⟨k, not_not.1 fun none => h (few.2 none)⟩, And.left⟩

end Sys2Proof.Machine

open Sys2Proof Sys2Proof.Machine

/-- Settles O14: an arrival pushes one level and touches none of what the zone's owners read. -/
theorem zoneInputsCross : Obligations.ZoneInputsCross := by
  unfold Obligations.ZoneInputsCross
  intro s
  refine ⟨fun h => ⟨?_, ?_⟩, ?_, ?_, ?_, ?_, ?_, ?_⟩
  · intro ahead id behind r hq before hr
    have record : recordOfId (pushInput s (.ar, true)) id = some r := by rw [recordOfId_pushInput]; exact hr
    have stage : slotStage s id = some r.stage := by simp [slotStage, hr]
    have awaits (here : r.stage = .reserved ∨ r.stage = .inTransit) : awaitingSlot (pushInput s (.ar, true)) = some id := by
      rw [awaitingSlot_pushInput]
      exact awaitingSlot_of_append hq before (by rw [stage]; simpa using here)
    refine ⟨fun reserved => arrival_of_rises h ?_, fun inTransit => arrival_of_rises h ?_⟩
    · rw [← nodeTime_pushInput s (.ar, true)]
      exact arrive_of_reserved (awaits (.inl reserved)) record reserved
    · rw [← nodeTime_pushInput s (.ar, true)]
      exact arrive_of_inTransit (awaits (.inr inTransit)) record inTransit
  · intro alone
    have none_awaits : awaitingSlot (pushInput s (.ar, true)) = none := by
      rw [awaitingSlot_pushInput]; exact awaitingSlot_eq_none alone
    have arrives := arrive_of_none none_awaits
    have fresh : unidentifiedRecord (pushInput s (.ar, true)) = unidentifiedRecord s := by
      simp only [unidentifiedRecord, nodeTime_pushInput]
    rw [pushInput_packs, fresh] at arrives
    refine ⟨fun room => arrival_of_rises h (arrives.trans ?_), fun full => arrival_of_rises h (arrives.trans ?_)⟩
    · rw [if_pos room]
    · rw [if_neg (by omega)]
  · intro h empty
    exact arrival_of_rises h (feedComplete_of_empty (by rw [pushInput_zone]; exact empty))
  · rintro x (rfl | ⟨n, rfl⟩) h
    · exact arrival_of_rises h rfl
    · exact arrival_of_rises h rfl
  · rintro x (rfl | rfl | rfl | ⟨n, rfl⟩) h <;> exact arrival_of_falls h rfl
  · intro h id rest r hq hr
    have queue : (pushInput s (.fc, true)).zone.queue = id :: rest := by rw [pushInput_zone]; exact hq
    have record : recordOfId (pushInput s (.fc, true)) id = some r := by rw [recordOfId_pushInput]; exact hr
    refine ⟨fun feeding => ⟨_, arrival_of_rises h (feedComplete_of_feeding queue record feeding), ?_⟩, fun other =>
      arrival_of_rises h (feedComplete_of_not_feeding queue record other)⟩
    refine ⟨?_, ?_, ?_, ?_, ?_⟩
    · simp
    · simp
    · simp [Config.totalMax]
    · simp
    · simp [hq]
  · intro n h
    have facts := detectorRises_facts (pushInput s (.d n, true)) n
    rw [nodeTime_pushInput, nodeCount_pushInput, cfg_pushInput, pushInput_fire] at facts
    exact ⟨_, arrival_of_rises h rfl, facts⟩
  · intro n h
    have facts := detectorFalls_facts (pushInput s (.d n, false)) n
    rw [pushInput_fire] at facts
    exact ⟨_, arrival_of_falls h rfl, facts⟩
end

section
/-! SUPPORT. The chain of reactions of an event, and the intervals of a bay; settles O15 and O16. -/

namespace Sys2Proof.Machine

variable {c : Instr} {s t u : State} {b : BayIdx}

/-! ### Reactions one after another -/

/-- A chain with one more state ahead. -/
def chainFrom (s : State) (chain : Nat → State) : Nat → State
  | 0 => s
  | n + 1 => chain n

theorem reactions_chain (before : Vector Timer 16) (limit : Nat) (s : State) : ∃ (n : Nat) (chain : Nat → State),
    n ≤ limit ∧ chain 0 = s ∧ (∀ k < n, react before (chain k) = some (chain (k + 1))) ∧ reactions before limit s = chain n ∧
      (n = limit ∨ react before (reactions before limit s) = none) := by
  induction limit generalizing s with
  | zero => exact ⟨0, fun _ => s, le_rfl, rfl, nofun, rfl, .inl rfl⟩
  | succ limit ih =>
    cases next : react before s with
    | none =>
      have stops : reactions before (limit + 1) s = s := by simp only [reactions, next]
      exact ⟨0, fun _ => s, Nat.zero_le _, rfl, nofun, stops, .inr (by rw [stops]; exact next)⟩
    | some t =>
      have goes : reactions before (limit + 1) s = reactions before limit t := by simp only [reactions, next]
      obtain ⟨n, chain, le, first, links, last, stops⟩ := ih t
      refine ⟨n + 1, chainFrom s chain, Nat.succ_le_succ le, rfl, fun k hk => ?_, goes.trans last, ?_⟩
      · cases k with
        | zero => exact next.trans (congrArg some first.symm)
        | succ k => exact links k (Nat.lt_of_succ_lt_succ hk)
      · rw [goes]
        exact stops.imp_left (congrArg (· + 1))

/-! ### The order of the readers (R158) -/

theorem react_of_timers {before : Vector Timer 16} (calm : handConditions s = none) (h : timersAfter s before ≠ s.timers) :
    react before s = some { s with timers := timersAfter s before } := by
  simp [react, calm, timersReact, h]

theorem react_of_rest {before : Vector Timer 16} (calm : handConditions s = none) (h : timersAfter s before = s.timers) :
    react before s = (zoneReact s).or ((allBays.findSome? (bayReact s)).or (feedReact s)) := by
  simp [react, calm, timersReact, h]

/-- The lowest bay that has a reaction is taken. -/
theorem findSome?_bayReact (h : bayReact s b = some t) (lower : ∀ c < b, bayReact s c = none) :
    allBays.findSome? (bayReact s) = some t := by
  have split : allBays = allBays.take b.val ++ b :: allBays.drop (b.val + 1) := by fin_cases b <;> rfl
  have below : ∀ c ∈ allBays.take b.val, c < b := by fin_cases b <;> decide
  rw [split, List.findSome?_append, List.findSome?_eq_none_iff.2 fun c hc => lower c (below c hc)]
  simp [h]

theorem findSome?_bayReact_none (h : ∀ b, bayReact s b = none) : allBays.findSome? (bayReact s) = none :=
  List.findSome?_eq_none_iff.2 fun b _ => h b

theorem obeyRows_eq (s : State) : obeyRows s = obeyBay (obeyBay (obeyBay (obeyBay (obeyZone s) 0) 1) 2) 3 := by
  unfold obeyRows
  rw [show allBays = [0, 1, 2, 3] from rfl]
  simp only [List.foldl_cons, List.foldl_nil]

/-! ### Conditions handed together (R120, R127) -/

/-- The rows among those whose condition changed that are raised by it. -/
def newlyRaised (s : State) : List Row := (changedRows s).filter fun r => conditionOf s r && !raised s r

theorem changedRows_sorted (s : State) : ((changedRows s).map rowPosition).Pairwise (· < ·) :=
  List.pairwise_map.2 (allRows_sorted.sublist List.filter_sublist)

theorem mem_changedRows (s : State) (r : Row) : r ∈ changedRows s ↔ conditionOf s r ≠ (rowState s r).condition := by
  simp [changedRows, mem_allRows]

theorem newlyRaised_sorted (s : State) : ((newlyRaised s).map rowPosition).Pairwise (· < ·) :=
  List.pairwise_map.2 ((List.pairwise_map.1 (changedRows_sorted s)).sublist List.filter_sublist)

theorem mem_newlyRaised (s : State) (r : Row) : r ∈ newlyRaised s ↔ r ∈ changedRows s ∧ conditionOf s r = true ∧ raised s r = false := by
  simp [newlyRaised]

theorem handConditions_of_some (h : handConditions s = some t) :
    t = obeyRows ((newlyRaised s).foldl onRaise ((changedRows s).foldl (fun u r => handCondition u r (conditionOf s r)) s)) := by
  unfold handConditions at h
  dsimp only at h
  split at h
  · cases h
  · exact (Option.some.inj h).symm

/-! ### How every command ends -/

theorem exec_ends {c : Instr} (hs : inService s = true) (h : exec c s = .next t) :
    t = s ∨ setsOffNothing c = true ∨ (∃ u, t = settle u) ∨ (∃ u r, t = queueReply (settle u) r) ∨ (∃ r, t = queueReply s r) ∨
      ∃ levels u, c = .discreteArrival levels ∧ t = markFirstOut s u ∧ (u = levels.foldl pushInput s ∨ ∃ v, u = settle v) := by
  by_cases cold : ∃ pins, c = .coldReset pins
  · obtain ⟨pins, rfl⟩ := cold
    exact .inr (.inl rfl)
  · have ends := (exec_ran c s (fun pins e => cold ⟨pins, e⟩) t h).ends
    generalize hv : t = v at ends
    cases ends with
    | same => exact .inl rfl
    | settled u => exact .inr (.inr (.inl ⟨u, rfl⟩))
    | answered u r => exact .inr (.inr (.inr (.inl ⟨u, r, rfl⟩)))
    | replied r => exact .inr (.inr (.inr (.inr (.inl ⟨r, rfl⟩))))
    | arrived levels u hc hu => exact .inr (.inr (.inr (.inr (.inr ⟨levels, u, hc, rfl, hu⟩))))
    | calm _ quiet _ =>
      rcases quiet with quiet | out
      · exact .inr (.inl quiet)
      · rw [hs] at out; cases out

/-! ### Intervals of a bay (R25, R30 to R32, R45) -/

theorem updBay_mismatch (s : State) (b : BayIdx) (w : ContactorWindow) {p : Prop} [Decidable p] {fails : Bool} (h : fails = true ↔ p) :
    updBay s b (fun x => { x with window := w, mismatch := x.mismatch || fails }) =
      updBay s b fun x => { x with window := w, mismatch := if p then true else x.mismatch } := by
  refine updBay_congr ?_
  by_cases hp : p
  · simp [hp, h.2 hp]
  · simp [hp, Bool.eq_false_of_not_eq_true fun e => hp (h.1 e)]

theorem exec_closingWindowExpiry {w : Nat} (hs : inService s = true) (hw : s.bays[b].window = .closing w) :
    exec (.closingWindowExpiry b) s = .next (if w ≤ s.now then
      settle (updBay s b fun x =>
        { x with window := .none, mismatch := x.mismatch || (decide (s.bays[b].state = .connecting) && !contactClosed s b) })
      else s) := by
  simp only [exec, execClosingWindowExpiry, whenServing, hs, hw, if_true]

theorem exec_openingWindowExpiry {w : Nat} (hs : inService s = true) (hw : s.bays[b].window = .opening w) :
    exec (.openingWindowExpiry b) s = .next (if w ≤ s.now then
      settle (updBay s b fun x => { x with window := .none, mismatch := x.mismatch || contactClosed s b }) else s) := by
  simp only [exec, execOpeningWindowExpiry, whenServing, hs, hw, if_true]

theorem exec_offerBackoffExpiry (hs : inService s = true) :
    exec (.offerBackoffExpiry b) s =
      .next (if due s s.bays[b].backoffUntil = true then settle (updBay s b fun x => { x with backoffUntil := none }) else s) := by
  simp only [exec, execOfferBackoffExpiry, whenServing, hs, if_true]

theorem exec_rgPulseEnd (hs : inService s = true) :
    exec (.rgPulseEnd b) s = .next (if due s s.bays[b].rgUntil = true then updBay s b fun x => { x with rgUntil := none } else s) := by
  simp only [exec, execRgPulseEnd, whenServing, hs, if_true]

end Sys2Proof.Machine

open Sys2Proof Sys2Proof.Machine

/-- Settles O15: the chain is that of `reactions`, its links that of `react`, and how commands end is `exec_ran`. -/
theorem eventsRunToTheirEnd : Obligations.EventsRunToTheirEnd := by
  unfold Obligations.EventsRunToTheirEnd
  refine ⟨obeyRows_eq, fun s => ?_, fun before s => ⟨fun t h => ?_, fun calm => ⟨react_of_timers calm, fun rest => ?_⟩⟩, ?_, ?_, ?_⟩
  · exact reactions_chain s.timers reactionLimit (obeyRows s)
  · simp [react, h]
  · have order := react_of_rest calm rest
    refine ⟨fun t h => by rw [order, h]; rfl, fun still => ⟨fun b t h lower => ?_, fun none_left => ?_⟩⟩
    · rw [order, still, findSome?_bayReact h lower]; rfl
    · rw [order, still, findSome?_bayReact_none none_left]; rfl
  · intro s t h
    exact ⟨changedRows s, newlyRaised s, changedRows_sorted s, mem_changedRows s, newlyRaised_sorted s, mem_newlyRaised s,
      handConditions_of_some h⟩
  · intro r s
    refine ⟨?_, ?_, fun h1 h2 h3 h4 th2 => ?_⟩
    · rintro (rfl | rfl | rfl | rfl) <;> rfl
    · rintro b rfl
      rfl
    · unfold onRaise
      split
      · exact absurd rfl h1
      · exact absurd rfl h2
      · exact absurd rfl h3
      · exact absurd rfl h4
      · exact absurd rfl (th2 _)
      · rfl
  · intro c s t hs h
    exact exec_ends hs h

/-- Settles O16: each expiry acts once its interval has run. -/
theorem bayIntervalsEnd : Obligations.BayIntervalsEnd := by
  unfold Obligations.BayIntervalsEnd
  intro b u s hs
  refine ⟨fun hw ran => ?_, fun hw ran => ?_, fun hw early => ?_, fun hw early => ?_, fun hu ran => ?_, fun hu early => ?_,
    fun hu ran => ?_, fun hu early => ?_⟩
  · have fails : (decide (s.bays[b].state = .connecting) && !contactClosed s b) = true ↔
        s.bays[b].state = .connecting ∧ s.meas[b].kf.filtered = false := by
      simp [contactClosed]
    rw [← updBay_mismatch s b .none fails, exec_closingWindowExpiry hs hw, if_pos ran]
    exact ⟨rfl, frame_settle _⟩
  · have fails : contactClosed s b = true ↔ s.meas[b].kf.filtered = true := Iff.rfl
    rw [← updBay_mismatch s b .none fails, exec_openingWindowExpiry hs hw, if_pos ran]
    exact ⟨rfl, frame_settle _⟩
  · rw [exec_closingWindowExpiry hs hw, if_neg (by omega)]
  · rw [exec_openingWindowExpiry hs hw, if_neg (by omega)]
  · rw [exec_offerBackoffExpiry hs, hu, if_pos (due_of_some rfl ran)]
    exact ⟨rfl, frame_settle _⟩
  · rw [exec_offerBackoffExpiry hs, hu, due_of_early fun v hv => Option.some.inj hv ▸ early]
    rfl
  · rw [exec_rgPulseEnd hs, hu, if_pos (due_of_some rfl ran)]
    refine ⟨_, rfl, rfl, ?_⟩
    simp [outRG]
  · rw [exec_rgPulseEnd hs, hu, due_of_early fun v hv => Option.some.inj hv ▸ early]
    rfl
end

section
/-! SUPPORT. The reactions of a bay, its hold set and the choice between a reaction and a hold; settles O17. -/

namespace Sys2Proof.Machine

variable {c : Instr} {s t u : State} {b : BayIdx}

/-! ### Hold sets (R37) -/

theorem reacts_iff (s : State) (r : Row) : reacts s r = true ↔ (rowState s r).raised = true ∧ (rowState s r).inhibit = none := by
  simp [reacts]

theorem held_iff (s : State) (b : BayIdx) : held s b = true ↔ ∃ r, holdsBay s b r = true ∧ reacts s r = true := by
  simp [held, mem_allRows]

theorem bayConfigured_iff (s : State) (b : BayIdx) : bayConfigured s b = true ↔ b.val < (cfg s).bayCount := decide_eq_true_iff

/-- The zone stands in the section of bay b. -/
theorem holdsBay_of_fire {r : Row} (h : r = .fd1 ∨ r = .fd2 ∨ r = .fd3 ∨ r = .fd4) :
    holdsBay s b r = true ↔ ∃ z, zoneCfg s = some z ∧ 1#8 <<< z.section_ = baySection s b := by
  have zone_holds : (hasZone s && decide (zoneSection s = baySection s b)) = true ↔
      ∃ z, zoneCfg s = some z ∧ 1#8 <<< z.section_ = baySection s b := by
    rw [Bool.and_eq_true, decide_eq_true_iff]
    unfold hasZone zoneSection
    cases zoneCfg s with
    | none => simp
    | some z => simp [sectionBit]
  rcases h with rfl | rfl | rfl | rfl <;> exact zone_holds

/-- The rows that hold a bay, and no other. -/
theorem holdsBay_kinds {r : Row} (h : holdsBay s b r = true) :
    r = .fd1 ∨ r = .fd2 ∨ r = .fd3 ∨ r = .fd4 ∨ r = .fd5 ∨ r = .th3 ∨
      ∃ c, r = .th1 c ∨ r = .th2 c ∨ r = .el1 c ∨ r = .el2 c ∨ r = .el4 c := by
  cases r with
  | fd1 | fd2 | fd3 | fd4 | fd5 | th3 => simp
  | th1 c | th2 c | el1 c | el2 c | el4 c => simp
  | fp1 | fp2 | at1 | at2 | at3 | at4 | at5 | el3 _ | ln1 _ | ln2 | ac1 _ | ac2 _ | ac3 | ac4 | ac5 | ac6 _ | ac7 => cases h

/-! ### Reactions of a bay, state by state -/

theorem bayReact_of_coil (h : s.bays[b].state = .connecting ∨ s.bays[b].state = .discharging) :
    bayReact s b = if connectPermit s b = true then ownReaction s b else some (holdOrReact s b) := by
  have lost : permitLost s b = !connectPermit s b := by
    unfold permitLost
    rw [decide_eq_true (h.imp_right .inl)]
    rfl
  unfold bayReact
  rw [lost]
  rcases h with h | h <;> rw [h] <;> cases connectPermit s b <;> rfl

theorem bayReact_of_resting (h : s.bays[b].state = .resting) : bayReact s b = ownReaction s b := by
  unfold bayReact
  rw [h]

theorem bayReact_of_held (h : s.bays[b].state = .held) (hold : held s b = true) : bayReact s b = none := by
  unfold bayReact
  rw [h, hold]
  rfl

theorem bayReact_of_freed_connecting (h : s.bays[b].state = .held) (free : held s b = false) (ret : s.bays[b].ret = some .connecting) :
    bayReact s b = if connectPermit s b = true then some (enterConnecting s b) else none := by
  unfold bayReact
  rw [h, free, ret]
  rfl

theorem bayReact_of_freed_resting (h : s.bays[b].state = .held) (free : held s b = false)
    (ret : s.bays[b].ret = some .resting ∨ s.bays[b].ret = some .safeRecheck) : bayReact s b = some (enterResting s b) := by
  unfold bayReact
  rw [h, free]
  rcases ret with ret | ret <;> rw [ret] <;> rfl

theorem bayReact_of_safe (h : s.bays[b].state = .safe) : bayReact s b = offerIfReady s b := by
  unfold bayReact
  rw [h]

theorem bayReact_of_quiet (h : s.bays[b].state = .empty ∨ s.bays[b].state = .loaded ∨ s.bays[b].state = .admitted ∨
    s.bays[b].state = .offering ∨ s.bays[b].state = .releasing ∨ s.bays[b].state = .quarantine) :
    bayReact s b = none ∧ ownReaction s b = none := by
  unfold bayReact ownReaction
  rcases h with h | h | h | h | h | h <;> rw [h] <;> exact ⟨rfl, rfl⟩

theorem ownReaction_of_connecting (h : s.bays[b].state = .connecting) :
    ownReaction s b = if s.meas[b].kf.filtered = true then some (enterDischarging s b) else none := by
  unfold ownReaction
  rw [h]
  rfl

theorem ownReaction_of_discharging (h : s.bays[b].state = .discharging) :
    ownReaction s b = if s.meas[b].cvEnd.filtered = true ∨ s.meas[b].ciEnd.filtered = true ∧ s.bays[b].endArmed = true then
      some (enterResting s b) else none := by
  have met : endMet s b = true ↔ s.meas[b].cvEnd.filtered = true ∨ s.meas[b].ciEnd.filtered = true ∧ s.bays[b].endArmed = true := by
    simp [endMet]
  unfold ownReaction
  rw [h]
  simp only [met]

theorem ownReaction_of_resting (h : s.bays[b].state = .resting) :
    ownReaction s b = if s.meas[b].cvRel.filtered = true then some (rebound s b) else none := by
  unfold ownReaction
  rw [h]

/-- DISCHARGING entered: the end is armed by a false CI_end, so CV_end alone can end it at once (R30, R33). -/
theorem enterDischarging_eq (s : State) (b : BayIdx) :
    enterDischarging s b =
      if s.meas[b].cvEnd.filtered = true then
        enterResting (updBay s b fun y => { y with state := .discharging, window := .none, endArmed := !s.meas[b].ciEnd.filtered }) b
      else updBay s b fun y => { y with state := .discharging, window := .none, endArmed := !s.meas[b].ciEnd.filtered } := by
  have armed : armEnd (updBay s b fun x => { x with state := .discharging, window := .none, endArmed := false }) b =
      updBay s b fun y => { y with state := .discharging, window := .none, endArmed := !s.meas[b].ciEnd.filtered } := by
    unfold armEnd
    rw [bay_updBay, updBay_meas]
    cases s.meas[b].ciEnd.filtered with
    | true => rfl
    | false =>
      rw [if_pos ⟨rfl, rfl⟩]
      simp [updBay]
  have met : endMet (updBay s b fun y => { y with state := .discharging, window := .none, endArmed := !s.meas[b].ciEnd.filtered }) b =
      s.meas[b].cvEnd.filtered := by
    unfold endMet
    rw [bay_updBay, updBay_meas]
    cases s.meas[b].ciEnd.filtered <;> simp
  unfold enterDischarging
  rw [armed]
  dsimp only
  rw [met]

/-! ### A hold and a reaction of its own (R33; log 7) -/

theorem holdOrReact_of_none (h : ownReaction s b = none) : holdOrReact s b = holdBay s b := by
  unfold holdOrReact
  rw [h]

/-- Whether a bay has a reaction of its own does not depend on the free choices. -/
theorem ownReaction_freeIndex (n : Nat) (h : ownReaction s b ≠ none) : ∃ t, ownReaction { s with freeIndex := n } b = some t := by
  have ran {p : Prop} [Decidable p] {v : State} (k : (if p then some v else none) ≠ none) : p := by
    by_contra fails
    exact k (if_neg fails)
  cases st : s.bays[b].state with
  | connecting =>
    rw [ownReaction_of_connecting st] at h
    exact ⟨_, (ownReaction_of_connecting (s := { s with freeIndex := n }) st).trans (if_pos (ran h))⟩
  | discharging =>
    rw [ownReaction_of_discharging st] at h
    exact ⟨_, (ownReaction_of_discharging (s := { s with freeIndex := n }) st).trans (if_pos (ran h))⟩
  | resting =>
    rw [ownReaction_of_resting st] at h
    exact ⟨_, (ownReaction_of_resting (s := { s with freeIndex := n }) st).trans (if_pos (ran h))⟩
  | empty | loaded | admitted | held | safe | offering | releasing | quarantine =>
    exact absurd (by unfold ownReaction; rw [st]) h

theorem holdOrReact_of_some (h : ownReaction s b ≠ none) (ht : ownReaction { s with freeIndex := s.freeIndex + 1 } b = some t) :
    holdOrReact s b = holdBay { s with freeIndex := s.freeIndex + 1 } b ∨
      holdOrReact s b = if held t b = true then holdBay t b else t := by
  unfold holdOrReact
  cases own : ownReaction s b with
  | none => exact absurd own h
  | some v =>
    simp only [takeChoice, ht]
    exact (ite_eq_or_eq _ _ _).symm

end Sys2Proof.Machine

open Sys2Proof Sys2Proof.Machine

/-- Settles O17: the reactions state by state, the hold set row by row, and the two outcomes of the choice. -/
theorem bayReactions : Obligations.BayReactions := by
  unfold Obligations.BayReactions
  intro b s
  dsimp only
  refine ⟨fun coil => ?_, bayReact_of_resting, fun h low => ?_, fun h high => ?_, ownReaction_of_discharging, ownReaction_of_resting,
    bayReact_of_held, fun h free => ⟨bayReact_of_freed_connecting h free, bayReact_of_freed_resting h free⟩, bayReact_of_safe,
    bayReact_of_quiet, held_iff s b, reacts_iff s, rfl, fun c => ?_, fun r hr => holdsBay_of_fire hr, bne_iff_ne, bne_iff_ne,
    fun r => holdsBay_kinds, fun hold working => ?_, fun still => ?_, decide_eq_true_iff, holdOrReact_of_none, fun own => ?_⟩
  · rw [bayReact_of_coil coil]
    exact ⟨fun lost => by rw [lost]; rfl, fun permit => if_pos permit⟩
  · rw [ownReaction_of_connecting h, low]; rfl
  · rw [ownReaction_of_connecting h, if_pos high, enterDischarging_eq]
  · refine ⟨decide_eq_true_iff, decide_eq_true_iff, decide_eq_true_iff, decide_eq_true_iff, ?_⟩
    show (decide (c = b) || (bayConfigured s c && decide (baySection s c = baySection s b))) = true ↔ _
    rw [Bool.or_eq_true, Bool.and_eq_true, decide_eq_true_iff, decide_eq_true_iff, bayConfigured_iff]
  · unfold obeyBay
    rw [hold, working]; rfl
  · unfold obeyBay
    rcases still with e | e <;> rw [e] <;> simp
  · obtain ⟨t, ht⟩ := ownReaction_freeIndex (s.freeIndex + 1) own
    exact ⟨t, ht, holdOrReact_of_some own ht⟩
end

section
/-! SUPPORT. The transitions of a bay as one rewriting of its controller each; settles O18. -/

namespace Sys2Proof.Machine

variable {c : Instr} {s t u : State} {b : BayIdx}

theorem updBay_updBay (s : State) (b : BayIdx) (f g : Bay → Bay) : updBay (updBay s b f) b g = updBay s b fun x => g (f x) := by
  unfold updBay
  simp

/-! ### The contactor goes off (R31, R32) -/

/-- The window of bay b once its coil is off. -/
def offWindow (s : State) (b : BayIdx) : ContactorWindow :=
  if s.bays[b].state = .connecting ∨ s.bays[b].state = .discharging then .opening (s.now + 400) else s.bays[b].window

/-- The EL4 condition of bay b once its coil is off. -/
def offMismatch (s : State) (b : BayIdx) : Bool :=
  if s.bays[b].state = .connecting ∨ s.bays[b].state = .discharging then s.bays[b].mismatch && s.meas[b].kf.filtered
  else s.bays[b].mismatch

theorem coilOff_of_not (h : ¬(s.bays[b].state = .connecting ∨ s.bays[b].state = .discharging)) : coilOff s b = s := by
  unfold coilOff coilOn
  rw [decide_eq_false h]
  rfl

theorem coilOff_eq (s : State) (b : BayIdx) :
    coilOff s b = updBay s b fun y => { y with window := offWindow s b, mismatch := offMismatch s b } := by
  unfold offWindow offMismatch
  by_cases h : s.bays[b].state = .connecting ∨ s.bays[b].state = .discharging
  · unfold coilOff coilOn
    rw [decide_eq_true h, if_pos h, if_pos h]
    exact (if_pos rfl).trans (updBay_congr rfl)
  · rw [coilOff_of_not h, if_neg h, if_neg h]
    exact (updBay_of_eq rfl).symm

/-- A bay made HELD. -/
def heldIn (s : State) (b : BayIdx) (ret : ReturnState) (window : ContactorWindow) (mismatch : Bool) : State :=
  updBay s b fun y =>
    { y with state := .held, ret := some ret, window := window, mismatch := mismatch, restUntil := none, backoffUntil := none }

theorem enterHeld_eq (s : State) (b : BayIdx) (ret : ReturnState) :
    enterHeld s b ret = heldIn s b ret (offWindow s b) (offMismatch s b) := by
  unfold enterHeld
  rw [coilOff_eq, updBay_updBay]
  rfl

theorem enterResting_eq (s : State) (b : BayIdx) :
    enterResting s b =
      let resting := updBay s b fun y =>
        { y with state := .resting, ret := none, window := offWindow s b, mismatch := offMismatch s b
                 restUntil := some (s.now + (cfg s).restInterval * 2000) }
      if s.meas[b].cvRel.filtered = true then rebound resting b else resting := by
  have entered : updBay (coilOff s b) b (fun x =>
      { x with state := .resting, ret := none
               restUntil := some (s.now + (cfg s).restInterval * Config.second) }) =
      updBay s b fun y =>
        { y with state := .resting, ret := none, window := offWindow s b, mismatch := offMismatch s b
                 restUntil := some (s.now + (cfg s).restInterval * 2000) } := by
    rw [coilOff_eq, updBay_updBay]
    rfl
  unfold enterResting
  dsimp only
  rw [entered]
  rfl

/-! ### Holds, rebounds, quarantine -/

theorem holdBay_of_coil (h : s.bays[b].state = .connecting ∨ s.bays[b].state = .discharging) :
    holdBay s b = enterHeld s b .connecting := by
  unfold holdBay
  rcases h with h | h <;> rw [h]

theorem holdBay_of_resting (h : s.bays[b].state = .resting) : holdBay s b = enterHeld s b .resting := by
  unfold holdBay
  rw [h]

theorem holdBay_of_passed (h : s.bays[b].state = .safe ∨ s.bays[b].state = .offering) :
    holdBay s b = enterHeld (loseVerification s b) b .safeRecheck := by
  unfold holdBay
  rcases h with h | h <;> rw [h]

theorem workingState_iff (s : State) (b : BayIdx) : workingState s b = true ↔ s.bays[b].state = .connecting ∨
    s.bays[b].state = .discharging ∨ s.bays[b].state = .resting ∨ s.bays[b].state = .safe ∨ s.bays[b].state = .offering :=
  decide_eq_true_iff

theorem holdBay_of_idle (h : workingState s b = false) : holdBay s b = s := by
  rw [← Bool.not_eq_true, workingState_iff] at h
  unfold holdBay
  generalize s.bays[b].state = st at h
  cases st with
  | connecting | discharging | resting | safe | offering => simp at h
  | empty | loaded | admitted | held | releasing | quarantine => rfl

/-- Where the verification is lost the bay and its measurement stay. -/
theorem off_loseVerification (s : State) (b : BayIdx) :
    offWindow (loseVerification s b) b = offWindow s b ∧ offMismatch (loseVerification s b) b = offMismatch s b := by
  have bays : (loseVerification s b).bays = s.bays := abandonIfOffering_bays s b
  have meas : (loseVerification s b).meas = s.meas := (frame_loseVerification s b).meas
  have now : (loseVerification s b).now = s.now := (frame_loseVerification s b).now
  unfold offWindow offMismatch
  rw [bays, meas, now]
  exact ⟨rfl, rfl⟩

theorem rebound_of_few {r : PackRecord} (hr : recordOfBay s b = some r) (few : r.rebounds < (cfg s).maxRebounds) :
    rebound s b =
      let counted := updRecordOfBay s b fun r => { r with rebounds := r.rebounds + 1 }
      if connectPermit counted b = true then enterConnecting counted b else enterHeld counted b .connecting := by
  unfold rebound
  rw [hr]
  exact if_pos few

theorem rebound_of_many {r : PackRecord} (hr : recordOfBay s b = some r) (many : (cfg s).maxRebounds ≤ r.rebounds) :
    rebound s b = enterQuarantine s b .rebound := by
  unfold rebound
  rw [hr]
  exact if_neg (Nat.not_lt.2 many)

theorem enterQuarantine_of_not_releasing (away : s.bays[b].state ≠ .releasing) (reason : QuarantineReason) :
    enterQuarantine s b reason =
      updBay (abandonIfOffering s b) b fun y =>
        { y with
          state := .quarantine, ret := none, window := offWindow s b, mismatch := offMismatch s b, restUntil := none
          backoffUntil := none, rgUntil := none, reason := some reason } := by
  have stays : (abandonIfOffering (coilOff s b) b).bays[b].state ≠ .releasing := by
    rw [abandonIfOffering_bays, (coilOff_bay s b).1]
    exact away
  have out : enterQuarantine s b reason = updBay (abandonIfOffering (coilOff s b) b) b fun x =>
      { x with state := .quarantine, ret := none, restUntil := none, backoffUntil := none, rgUntil := none, reason := some reason } := by
    unfold enterQuarantine
    dsimp only
    rw [if_neg stays]
  rw [out]
  by_cases coil : s.bays[b].state = .connecting ∨ s.bays[b].state = .discharging
  · have unoffered : s.bays[b].state ≠ .offering := by rcases coil with e | e <;> rw [e] <;> decide
    have kept : abandonIfOffering (coilOff s b) b = coilOff s b := by
      unfold abandonIfOffering
      rw [(coilOff_bay s b).1, if_neg unoffered]
    rw [kept, coilOff_eq, updBay_updBay, show abandonIfOffering s b = s from if_neg unoffered]
  · rw [coilOff_of_not coil]
    refine updBay_congr ?_
    rw [abandonIfOffering_bays]
    unfold offWindow offMismatch
    rw [if_neg coil, if_neg coil]

theorem enterQuarantine_of_releasing (h : s.bays[b].state = .releasing) (reason : QuarantineReason) :
    enterQuarantine s b reason =
      updBay (releaseReservation s b) b fun y =>
        { y with
          state := .quarantine, ret := none, restUntil := none, backoffUntil := none, rgUntil := none, reason := some reason } := by
  have off : coilOff s b = s := coilOff_of_not (by rw [h]; simp)
  have unoffered : abandonIfOffering s b = s := if_neg (by rw [h]; decide)
  unfold enterQuarantine
  dsimp only
  rw [off, unoffered, if_pos h]

theorem thermalQuarantine_of_holdsPack (h : holdsPack s b = true) :
    thermalQuarantine s b = enterQuarantine (updRecordOfBay s b fun r => { r with thermal := true }) b .thermal := by
  unfold thermalQuarantine
  rw [h]
  rfl

theorem thermalQuarantine_of_quarantine (h : s.bays[b].state = .quarantine) :
    thermalQuarantine s b = updRecordOfBay s b fun r => { r with thermal := true } := by
  have bare : holdsPack s b = false := by unfold holdsPack; rw [h]; rfl
  unfold thermalQuarantine
  rw [bare]
  exact if_pos h

theorem thermalQuarantine_of_bare (h : s.bays[b].state = .empty ∨ s.bays[b].state = .loaded) : thermalQuarantine s b = s := by
  have bare : holdsPack s b = false := by unfold holdsPack; rcases h with h | h <;> rw [h] <;> rfl
  have out : s.bays[b].state ≠ .quarantine := by rcases h with h | h <;> rw [h] <;> decide
  unfold thermalQuarantine
  simp only [bare, out, if_false, Bool.false_eq_true]

/-! ### Offers (R44, R70, R85) -/

theorem handoverFree_iff (s : State) : handoverFree s = true ↔ s.bus.handover.length < 8 := decide_eq_true_iff

theorem queueHandover_of_room (h : s.bus.handover.length < 8) (d : Addr) (x : HandoverBody) :
    queueHandover s d x = { s with bus := { s.bus with handover := s.bus.handover ++ [{ dest := d, body := x }] } } :=
  if_pos ((handoverFree_iff s).2 h)

theorem queueHandover_of_full (h : 8 ≤ s.bus.handover.length) (d : Addr) (x : HandoverBody) : queueHandover s d x = s :=
  if_neg fun free => Nat.not_lt.2 h ((handoverFree_iff s).1 free)

theorem releaseTestPasses_iff (s : State) (r : PackRecord) :
    releaseTestPasses s r = true ↔ ∀ e, r.residual = some e → e ≤ (cfg s).releaseLimit := by
  unfold releaseTestPasses
  cases r.residual <;> simp

theorem offerIfReady_of_none (h : recordOfBay s b = none) : offerIfReady s b = none := by
  unfold offerIfReady
  rw [h]

/-- A SAFE bay with a record offers exactly when the four conditions hold together. -/
theorem offerIfReady_eq {r : PackRecord} (hr : recordOfBay s b = some r) :
    offerIfReady s b =
      if (releasePermit s b = true ∧ s.bays[b].backoffUntil = none ∧ ∀ e, r.residual = some e → e ≤ (cfg s).releaseLimit) ∧
          (bayDest s b = s.loader.address ∨ s.bus.handover.length < 8) then
        some (if bayDest s b = s.loader.address then internalOffer s b r
          else updBay
            (updHandover (queueHandover s (bayDest s b) (.offer (offerOfRecord s b r))) b fun x =>
              { x with entry := .queued (r.id.getD []) (bayDest s b) s.now })
            b fun x => { x with state := .offering })
      else none := by
  unfold offerIfReady
  rw [hr]
  simp only [releaseTestPasses_iff, handoverFree_iff, and_assoc]
  split
  · split <;> rfl
  · rfl

/-- Checks 1 to 3 of R80 ahead of those on the pack. -/
theorem zoneDeclines_or {z : ZoneConfig} (hz : zoneCfg s = some z) (later : Option DeclineReason) :
    (zoneDeclines s).or later =
      if ¬(s.zone.state = .ready ∨ s.zone.state = .running) then some .state
      else if reacts s .ac3 = true then some .blocked
      else if 4 ≤ s.zone.queue.length + claimCount s then some .full
      else later := by
  have open_iff : zoneReadyOrRunning s = true ↔ s.zone.state = .ready ∨ s.zone.state = .running := by
    simp [zoneReadyOrRunning, hasZone, hz]
  unfold zoneDeclines
  by_cases ready : s.zone.state = .ready ∨ s.zone.state = .running
  · rw [open_iff.2 ready, if_neg (not_not.2 ready)]
    by_cases blocked : reacts s .ac3 = true
    · simp [blocked]
    · by_cases full : 4 ≤ s.zone.queue.length + claimCount s
      · simp [blocked, full, Config.queueSize, placesTaken]
      · simp [blocked, full, Config.queueSize, placesTaken]
  · rw [Bool.eq_false_of_not_eq_true fun e => ready (open_iff.1 e), if_pos ready]
    rfl

theorem packDeclines_some {z : ZoneConfig} (hz : zoneCfg s = some z) (e : Nat) (degraded : Bool) :
    packDeclines s (some e) degraded =
      if z.acceptLimit < e then some .residual else if degraded = true ∧ z.acceptDegraded = false then some .degraded else none := by
  unfold packDeclines
  rw [hz]
  simp

theorem packDeclines_none {z : ZoneConfig} (hz : zoneCfg s = some z) (degraded : Bool) :
    packDeclines s none degraded =
      if z.acceptUndeclared = false then some .residual
      else if degraded = true ∧ z.acceptDegraded = false then some .degraded else none := by
  unfold packDeclines
  rw [hz]
  simp

theorem internalOffer_of_taken {r : PackRecord} (h : (zoneDeclines s).or (packDeclines s r.residual r.degraded) = none) :
    internalOffer s b r =
      updBay
        (updRecordOfBay (updHandover s b fun y => { y with claim := true }) b fun r =>
          { r with dest := some s.loader.address, deadline := some (nodeCount s + (cfg s).transitLimit * 100) })
        b fun y => { y with state := .releasing, backoffUntil := none, rgUntil := some (s.now + 1000) } := by
  unfold internalOffer
  rw [h]
  rfl

theorem internalOffer_of_declined {r : PackRecord} {reason : DeclineReason}
    (h : (zoneDeclines s).or (packDeclines s r.residual r.degraded) = some reason) :
    internalOffer s b r =
      updHandover
        (updBay s b fun y => { y with state := .safe, backoffUntil := some (s.now + (cfg s).offerBackoff * 2000) })
        b fun y => { y with lastDecline := some reason } := by
  unfold internalOffer
  rw [h]
  rfl

/-! ### The presence check (R47, R48) -/

/-- The bay once its presence check is no longer pending. -/
def checkedBay (s : State) (b : BayIdx) : State := updBay s b fun y => { y with presencePending := false }

theorem checkedBay_state (s : State) (b : BayIdx) : (checkedBay s b).bays[b].state = s.bays[b].state := by
  unfold checkedBay
  rw [bay_updBay]

theorem presenceCheck_of_gone (h : s.meas[b].pp.filtered = false) : presenceCheck s b = packGone (checkedBay s b) b := by
  unfold presenceCheck
  dsimp only
  rw [updBay_meas, h]
  rfl

theorem presenceCheck_of_present (h : s.meas[b].pp.filtered = true) :
    presenceCheck s b =
      if (packSensed (checkedBay s b) b).bays[b].state = .loaded then
        updBay (packSensed (checkedBay s b) b) b fun x => { x with foundAtStart := true }
      else packSensed (checkedBay s b) b := by
  unfold presenceCheck
  dsimp only
  rw [updBay_meas, if_pos h]
  rfl

theorem presenceCheck_of_empty (h : s.meas[b].pp.filtered = true) (st : s.bays[b].state = .empty) :
    presenceCheck s b = updBay (checkedBay s b) b fun y => { y with state := .loaded, removed := false, foundAtStart := true } := by
  have sensed : packSensed (checkedBay s b) b = updBay (checkedBay s b) b fun x => { x with state := .loaded, removed := false } :=
    packSensed_of_empty ((checkedBay_state s b).trans st)
  rw [presenceCheck_of_present h, sensed, bay_updBay, if_pos rfl, updBay_updBay]

theorem presenceCheck_of_not_empty (h : s.meas[b].pp.filtered = true) (st : s.bays[b].state ≠ .empty) :
    presenceCheck s b =
      if s.bays[b].state = .loaded then updBay (checkedBay s b) b fun y => { y with foundAtStart := true } else checkedBay s b := by
  have sensed : packSensed (checkedBay s b) b = checkedBay s b :=
    packSensed_of_not_empty fun e => st ((checkedBay_state s b).symm.trans e)
  rw [presenceCheck_of_present h, sensed, checkedBay_state]

/-- A mark of an arrival that left the rows as they were moves nothing. -/
theorem markFirstOut_of_causes (h : t.causes = s.causes) : markFirstOut s t = t := by
  unfold markFirstOut
  cases quiet : latchedRaised s with
  | true => rfl
  | false =>
    have none_raised : lowestLatched t = none := by
      unfold latchedRaised raised rowState at quiet
      unfold lowestLatched raised rowState
      rw [List.find?_eq_none, h]
      rw [List.any_eq_false] at quiet
      exact quiet
    rw [none_raised]
    rfl

theorem inputEvent_of_pending {level : Bool} (configured : bayConfigured s b = true) (pending : s.bays[b].presencePending = true) :
    inputEvent s (pushInput s (.pp b, level)) (.pp b) =
      if (cfg s).kd ≤ s.bays[b].ppSeen + 1 then some (.presence b) else none := by
  have pushed : (pushInput s (.pp b, level)).bays[b] = { s.bays[b] with ppSeen := s.bays[b].ppSeen + 1 } := by
    unfold pushInput
    rw [if_pos (show inputConfigured s (.pp b) = true from configured)]
    dsimp only
    rw [if_pos (by rw [updMeas_bays]; exact pending)]
    exact bay_updBay _ b _
  unfold inputEvent
  rw [inputConfigured_pushInput, if_pos (show inputConfigured s (.pp b) = true from configured)]
  dsimp only
  rw [pushed, cfg_pushInput]
  exact if_pos pending

end Sys2Proof.Machine

open Sys2Proof Sys2Proof.Machine

/-- Settles O18: each transition is one rewriting of the bay, its record, its offer and its claim. -/
theorem bayTransitions : Obligations.BayTransitions := by
  unfold Obligations.BayTransitions
  intro b s x m coil off mismatchOff unoffered heldBay
  have held_eq (u : State) (ret : ReturnState) : heldBay u ret = heldIn u b ret (offWindow s b) (offMismatch s b) := rfl
  have unoffered_eq : unoffered s = abandonIfOffering s b := rfl
  refine ⟨fun h => ?_, fun h => ?_, fun h => ?_, holdBay_of_idle, rfl, enterResting_eq s b, fun r hr => ?_, fun _ => rfl,
    fun _ away reason => enterQuarantine_of_not_releasing away reason, fun h reason => enterQuarantine_of_releasing h reason,
    ⟨thermalQuarantine_of_holdsPack, thermalQuarantine_of_quarantine, thermalQuarantine_of_bare⟩, fun r hr => ?_,
    offerIfReady_of_none, ⟨fun present => ⟨presenceCheck_of_empty present, fun loaded => ?_, fun full other => ?_⟩, fun gone => ?_⟩,
    fun level hs configured pending => ?_⟩
  · rw [holdBay_of_coil h, enterHeld_eq, held_eq]
  · rw [holdBay_of_resting h, enterHeld_eq, held_eq]
  · rw [holdBay_of_passed h, enterHeld_eq, held_eq, (off_loseVerification s b).1, (off_loseVerification s b).2]
    rfl
  · dsimp only
    refine ⟨fun few permit => ?_, fun few lost => ?_, rebound_of_many hr⟩
    · rw [rebound_of_few hr few]
      exact if_pos permit
    · rw [rebound_of_few hr few, held_eq]
      dsimp only
      rw [lost, enterHeld_eq]
      rfl
  · intro ready outward
    have offers := offerIfReady_eq hr
    refine ⟨fun now away room => ?_, fun now inside => ?_, fun unready => ?_, fun z hz => ?_⟩
    · rw [offers, if_pos ⟨now, .inr room⟩, if_neg away, queueHandover_of_room room]
      rfl
    · have same : bayDest s b = s.loader.address := not_not.1 inside
      rw [offers, if_pos ⟨now, .inl same⟩, if_pos same]
    · rw [offers, if_neg]
      rintro ⟨now, there⟩
      rcases unready with never | ⟨away, full⟩
      · exact never now
      · rcases there with e | e
        · exact away e
        · omega
    · have why := zoneDeclines_or hz (packDeclines s r.residual r.degraded)
      intro refused
      have same : refused = (zoneDeclines s).or (packDeclines s r.residual r.degraded) := by
        rw [why]
        dsimp only [refused]
        cases r.residual with
        | none => rw [packDeclines_none hz]; simp
        | some e => rw [packDeclines_some hz]; simp
      exact ⟨fun taken => internalOffer_of_taken (same.symm.trans taken), fun reason no => internalOffer_of_declined (same.symm.trans no)⟩
  · rw [presenceCheck_of_not_empty present (by rw [loaded]; decide)]
    exact if_pos loaded
  · rw [presenceCheck_of_not_empty present full]
    exact if_neg other
  · rw [presenceCheck_of_gone gone]
    have st := checkedBay_state s b
    refine ⟨fun bare => packGone_of_bare (by rw [st]; exact bare), fun loaded => packGone_of_loaded (st.trans loaded),
      fun releasing => packGone_of_releasing (st.trans releasing), fun holds away => packGone_of_holdsPack ?_ (by rw [st]; exact away)⟩
    unfold holdsPack
    rw [st]
    exact holds
  · have event := inputEvent_of_pending (level := level) configured pending
    refine ⟨fun early => ?_, fun enough => arrival_of_event hs (event.trans (if_pos enough)) rfl⟩
    have none_yet := event.trans (if_neg (Nat.not_le.2 early))
    have still : exec (.discreteArrival [(.pp b, level)]) s = .next (markFirstOut s (pushInput s (.pp b, level))) := by
      simp [exec, execDiscreteArrival, whenServing, hs, none_yet]
    rw [still, markFirstOut_of_causes (pushInput_causes s _)]
end

section
/-! SUPPORT. The judgement at the rest expiry and the deadlines of the handover exchange; settles O19 and O20. -/

namespace Sys2Proof.Machine

variable {c : Instr} {s t u : State} {b : BayIdx}

/-! ### Commands that act where their test passes -/

/-- The reactions of a state follow: what an answer with them leaves alone. -/
theorem answersSettled_next (u : State) : AnswersSettled (.next (settle u)) u := ⟨rfl, frame_settle u⟩

/-- A command answers the state u with its reactions where the two states agree. -/
theorem answersSettled_of_eq {o : Host.Outcome State Fault Refusal} (h : o = .next (settle t)) (e : t = u) : AnswersSettled o u := by
  rw [h, e]
  exact answersSettled_next u

theorem exec_restTimerExpiry (hs : inService s = true) (st : s.bays[b].state = .resting) (ran : due s s.bays[b].restUntil = true) :
    exec (.restTimerExpiry b) s = .next (settle (judgeRest s b)) := by
  show Host.Outcome.next (if inService s = true then
    (if (decide (s.bays[b].state = .resting) && due s s.bays[b].restUntil) = true then settle (judgeRest s b) else s) else s) = _
  rw [if_pos hs, if_pos (by rw [ran, decide_eq_true st]; rfl)]

/-! ### The rest expiry (R36) -/

/-- The bay with its rest timer stopped. -/
def restStopped (s : State) (b : BayIdx) : State := updBay s b fun x => { x with restUntil := none }

theorem judgeRest_of_record {r : PackRecord} (hr : recordOfBay s b = some r) :
    judgeRest s b =
      if s.meas[b].cvRel.filtered = true then rebound (restStopped s b) b
      else if fractionPasses s r = false then enterQuarantine (restStopped s b) b .fraction
      else if releaseTestPasses s r = false then enterQuarantine (restStopped s b) b .residual
      else
        updRecordOfBay (updBay (restStopped s b) b fun x => { x with state := .safe, ret := none, backoffUntil := none }) b fun r =>
          { r with restPassed := true } := by
  have record : recordOfBay (restStopped s b) b = some r := hr
  have fraction : fractionPasses (restStopped s b) r = fractionPasses s r := rfl
  have release : releaseTestPasses (restStopped s b) r = releaseTestPasses s r := rfl
  unfold judgeRest
  change (match recordOfBay (restStopped s b) b with | none => _ | some r => _) = _
  rw [record]
  dsimp only
  change (if s.meas[b].cvRel.filtered = true then _ else if (!fractionPasses (restStopped s b) r) = true then _
    else if (!releaseTestPasses (restStopped s b) r) = true then _ else _) = _
  rw [fraction, release]
  simp only [Bool.not_eq_true']
  rfl

theorem fractionPasses_eq_false_iff (s : State) (r : PackRecord) :
    fractionPasses s r = false ↔ ∃ e : Nat, r.edecl = some e ∧ r.edis * 100 < (e : Int) * ((cfg s).pmin : Int) := by
  unfold fractionPasses
  cases r.edecl <;> simp

theorem releaseTestPasses_eq_false_iff (s : State) (r : PackRecord) :
    releaseTestPasses s r = false ↔ ∃ e : Nat, r.residual = some e ∧ (cfg s).releaseLimit < e := by
  unfold releaseTestPasses
  cases r.residual <;> simp

/-! ### Offers that expire (R71, R75) -/

theorem expireOffer_eq (s : State) (b : BayIdx) :
    expireOffer s b =
      updRecordOfBay
        (updBay (dropOffer (updHandover s b fun x => { x with entry := .none }) b) b fun x =>
          { x with state := .safe, backoffUntil := some (s.now + (cfg s).offerBackoff * 2000) })
        b fun r => { r with unanswered := min 3 (r.unanswered + 1) } := rfl

theorem exec_offerQueueExpiry {id : PackId} {d : Addr} {at_ : Nat} (hs : inService s = true) (st : s.bays[b].state = .offering)
    (entry : s.handover[b].entry = .queued id d at_) :
    exec (.offerQueueExpiry b) s =
      .next (if at_ + 4 * Config.period s.loader.period ≤ s.now then settle (expireOffer s b) else s) := by
  have test : queuedTooLong s b = true ↔ at_ + 4 * Config.period s.loader.period ≤ s.now := by
    unfold queuedTooLong
    rw [entry]
    dsimp only
    rw [decide_eq_true_iff]
    exact and_iff_right st
  show Host.Outcome.next (if inService s = true then (if queuedTooLong s b = true then _ else _) else _) = _
  rw [if_pos hs]
  simp only [test]

theorem exec_answerWindowExpiry {id : PackId} {d : Addr} {at_ window : Nat} (hs : inService s = true)
    (st : s.bays[b].state = .offering) (entry : s.handover[b].entry = .out id d at_ window) :
    exec (.answerWindowExpiry b) s = .next (if window ≤ s.now then settle (expireOffer s b) else s) := by
  have test : windowOver s b = true ↔ window ≤ s.now := by
    unfold windowOver
    rw [entry]
    dsimp only
    rw [decide_eq_true_iff]
    exact and_iff_right st
  show Host.Outcome.next (if inService s = true then (if windowOver s b = true then _ else _) else _) = _
  rw [if_pos hs]
  simp only [test]

/-! ### Deadlines of records (R57, R77, R78, R82) -/

theorem exec_transitDeadlineExpiry {id : PackId} (hs : inService s = true) (reached : deadlineReached s id = true) :
    exec (.transitDeadlineExpiry id) s = .next (settle (expireTransit s id)) := by
  show Host.Outcome.next (if inService s = true then (if deadlineReached s id = true then _ else _) else _) = _
  rw [if_pos hs, if_pos reached]

theorem exec_reservationExpiry {id : PackId} (hs : inService s = true) (reached : deadlineReached s id = true) :
    exec (.reservationExpiry id) s = .next (settle (expireReservation s id)) := by
  show Host.Outcome.next (if inService s = true then (if deadlineReached s id = true then _ else _) else _) = _
  rw [if_pos hs, if_pos reached]

/-- What a release given up does to the reservation behind it (R77). -/
theorem releaseReservation_of_dest {r : PackRecord} {id : PackId} {d : Addr} (hr : recordOfBay s b = some r) (hid : r.id = some id)
    (hd : r.dest = some d) :
    releaseReservation s b =
      updRecordOfBay
        (if d = s.loader.address then updHandover s b fun x => { x with claim := false } else queueHandover s d (.withdraw id))
        b fun r => { r with dest := none, deadline := none } := by
  unfold releaseReservation
  rw [hr]
  dsimp only
  rw [hid, hd]

theorem queueHandover_eq (s : State) (d : Addr) (x : HandoverBody) :
    queueHandover s d x = if s.bus.handover.length < 8 then
      { s with bus := { s.bus with handover := s.bus.handover ++ [{ dest := d, body := x }] } } else s := by
  by_cases room : s.bus.handover.length < 8
  · rw [queueHandover_of_room room, if_pos room]
  · rw [queueHandover_of_full (Nat.not_lt.1 room), if_neg room]

end Sys2Proof.Machine

open Sys2Proof Sys2Proof.Machine

/-- Settles O19: the tests of the judgement in their order. -/
theorem restExpiryJudges : Obligations.RestExpiryJudges := by
  unfold Obligations.RestExpiryJudges
  intro b until_ r s hs st rest ran hr stopped counted low
  have answer := exec_restTimerExpiry hs st (due_of_some rest ran)
  rw [judgeRest_of_record hr] at answer
  have record : recordOfBay stopped b = some r := hr
  have low_iff : fractionPasses s r = false ↔ low := fractionPasses_eq_false_iff s r
  refine ⟨fun rel few permit => answersSettled_of_eq answer ?_, fun rel few lost => answersSettled_of_eq answer ?_,
    fun rel many => answersSettled_of_eq answer ?_, fun still fails => answersSettled_of_eq answer ?_,
    fun e still passes residual above => answersSettled_of_eq answer ?_, fun still passes within => answersSettled_of_eq answer ?_⟩
  · rw [if_pos rel]
    exact (rebound_of_few record few).trans (if_pos permit)
  · rw [if_pos rel]
    exact (rebound_of_few record few).trans (if_neg (by rw [lost]; decide))
  · rw [if_pos rel]
    exact rebound_of_many record many
  · rw [if_neg (by rw [still]; decide), if_pos (low_iff.2 fails)]
    rfl
  · rw [if_neg (by rw [still]; decide), if_neg (mt low_iff.1 passes),
      if_pos ((releaseTestPasses_eq_false_iff s r).2 ⟨e, residual, above⟩)]
    rfl
  · rw [if_neg (by rw [still]; decide), if_neg (mt low_iff.1 passes), if_neg]
    · rw [restStopped, updBay_updBay]
    · rw [(releaseTestPasses_iff s r).2 within]
      decide

/-- Settles O20: the expiries of offers, and of records by the stage they find. -/
theorem handoverDeadlinesExpire : Obligations.HandoverDeadlinesExpire := by
  unfold Obligations.HandoverDeadlinesExpire
  refine ⟨fun b id d queuedAt window s hs st => ⟨fun entry => ?_, fun entry => ?_⟩, fun id r d s hs hr hd hle => ?_⟩
  · rw [exec_offerQueueExpiry hs st entry]
    refine ⟨fun ran => ?_, fun early => by rw [if_neg (by omega)]⟩
    rw [if_pos ran]
    exact answersSettled_next _
  · rw [exec_answerWindowExpiry hs st entry]
    refine ⟨fun ran => ?_, fun early => by rw [if_neg (by omega)]⟩
    rw [if_pos ran]
    exact answersSettled_next _
  · have reached : deadlineReached s id = true := (deadlineReached_iff s id).2 ⟨r, d, hr, hd, hle⟩
    have transit := exec_transitDeadlineExpiry hs reached
    have hid : r.id = some id := id_of_recordOfId hr
    refine ⟨fun stage away => ?_, fun stage inside => ?_, fun b stage record st => ⟨fun own => ?_, fun station out away => ?_⟩, fun stage => ?_⟩
    · rw [expireTransit_of_transit hr stage, if_neg away] at transit
      exact answersSettled_of_eq transit rfl
    · rw [expireTransit_of_transit hr stage, if_pos inside] at transit
      exact answersSettled_of_eq transit rfl
    · obtain ⟨-, at_bay⟩ := stage_bay_of_recordOfBay record
      rw [expireTransit_of_releasing hr stage at_bay st, backToSafe_releaseReservation, releaseReservation_of_dest record hid own,
        if_pos rfl] at transit
      exact answersSettled_of_eq transit rfl
    · obtain ⟨-, at_bay⟩ := stage_bay_of_recordOfBay record
      rw [expireTransit_of_releasing hr stage at_bay st, backToSafe_releaseReservation, releaseReservation_of_dest record hid out,
        if_neg away, queueHandover_eq] at transit
      exact answersSettled_of_eq transit rfl
    · have expiry := exec_reservationExpiry hs reached
      rw [expireReservation_of_reserved hr stage] at expiry
      exact answersSettled_of_eq expiry rfl
end

section
/-! SUPPORT. OFFER and the four answers of the handover exchange; settles O21 and O22. -/

namespace Sys2Proof.Machine

variable {c : Instr} {s t u : State} {b : BayIdx}

/-! ### OFFER (R79 to R81) -/

theorem packIdOk_iff (id : PackId) :
    packIdOk id = true ↔ (1 ≤ id.length ∧ id.length ≤ 12) ∧ ∀ c ∈ id, 32 ≤ c.toNat ∧ c.toNat ≤ 126 := by
  simp [packIdOk]

theorem offerFormed_iff (s : State) (o : OfferPayload) :
    offerFormed s o = true ↔
      o.dest = s.loader.address ∧ (1 ≤ o.id.length ∧ o.id.length ≤ 12) ∧ (∀ c ∈ o.id, 32 ≤ c.toNat ∧ c.toNat ≤ 126) ∧
        o.cls.toNat ≤ 3 ∧ (1 ≤ o.cells.toNat ∧ o.cells.toNat ≤ 250) ∧ o.originBay.toNat ≤ 3 ∧
        (∀ e, o.edecl = some e → e.toNat ≤ 1000000) ∧ -1000000 ≤ o.edis.toInt ∧ o.edis.toInt ≤ 1000000 := by
  have energy : (o.edecl.all fun e => decide (e.toNat ≤ 1000000)) = true ↔ ∀ e, o.edecl = some e → e.toNat ≤ 1000000 := by
    cases o.edecl <;> simp
  unfold offerFormed
  simp only [Bool.and_eq_true, decide_eq_true_eq, packIdOk_iff, energy, and_assoc]

theorem isRepeat_iff (s : State) (sender : Addr) (o : OfferPayload) :
    isRepeat s sender o = true ↔ ∃ r, recordOfId s o.id = some r ∧ r.stage = .reserved ∧ r.origin = some sender := by
  unfold isRepeat
  cases recordOfId s o.id <;> simp

theorem exec_offer {h : Header} {o : OfferPayload} (heard : heardOwn s h = true) : exec (.offer h o) s = .next (takeOffer s h.sender o) := by
  show Host.Outcome.next (if heardOwn s h = true then _ else _) = _
  rw [if_pos heard]

theorem takeOffer_of_discarded {sender : Addr} {o : OfferPayload} (h : offerFormed s o = false ∨ 8 ≤ s.bus.handover.length) :
    takeOffer s sender o = s := by
  refine if_neg ?_
  rw [Bool.and_eq_true, handoverFree_iff]
  rintro ⟨formed, room⟩
  rcases h with h | h
  · rw [formed] at h; cases h
  · omega

/-- What a well-formed OFFER that meets room for its answer does. -/
theorem takeOffer_eq {sender : Addr} {o : OfferPayload} (formed : offerFormed s o = true) (room : s.bus.handover.length < 8) :
    takeOffer s sender o =
      if isRepeat s sender o = true then settle (queueHandover s sender (.accept o.id))
      else if declines s o = none then settle (reserve s sender o)
      else settle (queueHandover s sender (.decline o.id ((declines s o).getD .state))) := by
  unfold takeOffer
  rw [if_pos (by rw [Bool.and_eq_true]; exact ⟨formed, (handoverFree_iff s).2 room⟩)]
  cases declines s o with
  | none =>
    dsimp only
    rw [if_pos (rfl : (none : Option DeclineReason) = none)]
  | some reason =>
    dsimp only
    rw [if_neg (Option.some_ne_none reason), Option.getD_some]

theorem declines_eq {z : ZoneConfig} (hz : zoneCfg s = some z) (o : OfferPayload) :
    declines s o =
      if ¬(s.zone.state = .ready ∨ s.zone.state = .running) then some .state
      else if reacts s .ac3 = true then some .blocked
      else if 4 ≤ s.zone.queue.length + claimCount s then some .full
      else if 24 ≤ s.packs.records.length then some .full
      else if (recordOfId s o.id).isSome = true then some .duplicate
      else packDeclines s (offeredResidual o) o.degraded := by
  have full_iff : (!recordFree s) = true ↔ 24 ≤ s.packs.records.length := by
    have free : recordFree s = true ↔ s.packs.records.length < 24 := decide_eq_true_iff
    rw [Bool.not_eq_true', ← Bool.not_eq_true, free, Nat.not_lt]
  unfold declines
  rw [zoneDeclines_or hz]
  simp only [full_iff]

theorem declines_of_no_zone (hz : zoneCfg s = none) (o : OfferPayload) : declines s o = some .state := by
  have shut : zoneReadyOrRunning s = false := by simp [zoneReadyOrRunning, hasZone, hz]
  unfold declines zoneDeclines
  rw [shut]
  rfl

theorem reserve_eq {sender : Addr} (o : OfferPayload) (room : s.bus.handover.length < 8) :
    reserve s sender o =
      { s with
        packs := { s.packs with records := s.packs.records ++ [reservedRecord s sender o] }
        zone := { s.zone with queue := s.zone.queue ++ [o.id] }
        bus := { s.bus with handover := s.bus.handover ++ [{ dest := sender, body := .accept o.id }] } } :=
  queueHandover_of_room (s := updZone (addRecord s (reservedRecord s sender o)) fun z => { z with queue := z.queue ++ [o.id] }) room _ _

/-! ### ACCEPT and DECLINE (R72, R74) -/

/-- The lowest bay with a property. -/
theorem find?_allBays (p : BayIdx → Bool) (b : BayIdx) : allBays.find? p = some b ↔ p b = true ∧ ∀ c < b, p c = false := by
  have finite : ∀ (p : BayIdx → Bool) (b : BayIdx), allBays.find? p = some b ↔ p b = true ∧ ∀ c < b, p c = false := by decide
  exact finite p b

theorem answeredBay_iff (s : State) (sender : Addr) (id : PackId) (b : BayIdx) :
    answeredBay s sender id = some b ↔
      s.bays[b].state = .offering ∧ entryIs s.handover[b].entry sender id = true ∧
        ∀ c < b, ¬(s.bays[c].state = .offering ∧ entryIs s.handover[c].entry sender id = true) := by
  unfold answeredBay
  rw [find?_allBays]
  simp only [← Bool.not_eq_true, Bool.and_eq_true, decide_eq_true_iff, and_assoc]

theorem releaseUnderWay_iff (s : State) (sender : Addr) (id : PackId) :
    releaseUnderWay s sender id = true ↔
      ∃ r, recordOfId s id = some r ∧ r.dest = some sender ∧
        (r.stage = .inTransit ∨ r.stage = .atBay ∧ ∃ b : BayIdx, r.bay = some b ∧ s.bays[b].state = .releasing) := by
  unfold releaseUnderWay
  cases recordOfId s id with
  | none => simp
  | some r => cases hst : r.stage <;> cases hb : r.bay <;> simp [hst, hb]

theorem lateAnswer_of_holder {sender : Addr} {id : PackId}
    (h : ∃ r b, recordOfId s id = some r ∧ r.stage = .atBay ∧ r.bay = some b ∧ bayDest s b = sender) :
    lateAnswer s sender id = updRecordOfId s id fun r => { r with unanswered := 0 } := by
  obtain ⟨r, b, hr, stage, bay, dest⟩ := h
  unfold lateAnswer
  rw [hr]
  cases r
  cases stage
  cases bay
  exact if_pos dest

theorem lateAnswer_of_other {sender : Addr} {id : PackId}
    (h : ¬∃ r b, recordOfId s id = some r ∧ r.stage = .atBay ∧ r.bay = some b ∧ bayDest s b = sender) : lateAnswer s sender id = s := by
  unfold lateAnswer
  split
  · rename_i hr
    split
    · rename_i dest
      exact absurd ⟨_, _, hr, rfl, rfl, dest⟩ h
    · rfl
  · rfl

theorem packIdLengthOk_iff (id : PackId) : packIdLengthOk id = true ↔ 1 ≤ id.length ∧ id.length ≤ 12 := decide_eq_true_iff

/-- A handover frame to this node that names an ID reaches its half. -/
theorem exec_accept {h : Header} {id : PackId} (heard : (heardOwn s h && packIdLengthOk id) = true) :
    exec (.accept h id) s = .next (settle (takeAccept s h.sender id)) := by
  show Host.Outcome.next (if (heardOwn s h && packIdLengthOk id) = true then _ else _) = _
  rw [if_pos heard]

theorem exec_decline {h : Header} {id : PackId} (reason : DeclineReason) (heard : (heardOwn s h && packIdLengthOk id) = true) :
    exec (.decline h id reason) s = .next (settle (takeDecline s h.sender id reason)) := by
  show Host.Outcome.next (if (heardOwn s h && packIdLengthOk id) = true then _ else _) = _
  rw [if_pos heard]

theorem exec_withdraw {h : Header} {id : PackId} (heard : (heardOwn s h && packIdLengthOk id) = true) :
    exec (.withdraw h id) s = .next (settle (takeWithdraw s h.sender id)) := by
  show Host.Outcome.next (if (heardOwn s h && packIdLengthOk id) = true then _ else _) = _
  rw [if_pos heard]

theorem exec_landed {h : Header} {id : PackId} (heard : (heardOwn s h && packIdLengthOk id) = true) :
    exec (.landed h id) s = .next (settle (takeLanded s id)) := by
  show Host.Outcome.next (if (heardOwn s h && packIdLengthOk id) = true then _ else _) = _
  rw [if_pos heard]

theorem takeAccept_of_bay {sender : Addr} {id : PackId} (hb : answeredBay s sender id = some b) :
    takeAccept s sender id =
      if releasePermit s b = true then enterReleasing (endOffer s b) b sender
      else queueHandover (backToSafe (endOffer s b) b) sender (.withdraw id) := by
  unfold takeAccept
  rw [hb]

theorem takeAccept_of_none {sender : Addr} {id : PackId} (hb : answeredBay s sender id = none) :
    takeAccept s sender id =
      if releaseUnderWay s sender id = true then lateAnswer s sender id
      else queueHandover (lateAnswer s sender id) sender (.withdraw id) := by
  unfold takeAccept
  rw [hb]

/-! ### WITHDRAW and LANDED (R57, R81) -/

theorem takeWithdraw_of_record {sender : Addr} {id : PackId} {r : PackRecord} (hr : recordOfId s id = some r) :
    takeWithdraw s sender id = if r.stage = .reserved ∧ r.origin = some sender then removeReservation s id else s := by
  unfold takeWithdraw
  rw [hr]

theorem takeWithdraw_of_none {sender : Addr} {id : PackId} (hr : recordOfId s id = none) : takeWithdraw s sender id = s := by
  unfold takeWithdraw
  rw [hr]

theorem takeLanded_of_inTransit {id : PackId} {r : PackRecord} (hr : recordOfId s id = some r) (stage : r.stage = .inTransit) :
    takeLanded s id =
      if r.origin = some s.loader.address then dropSlot (countHandedOut (removeRecordOfId s id)) id
      else countHandedOut (removeRecordOfId s id) := by
  unfold takeLanded
  simp only [hr, stage]

theorem takeLanded_of_missing {id : PackId} {r : PackRecord} (hr : recordOfId s id = some r) (stage : r.stage = .missing) :
    takeLanded s id = countHandedOut (removeRecordOfId s id) := by
  unfold takeLanded
  simp only [hr, stage]

theorem takeLanded_of_other {id : PackId} {r : PackRecord} (hr : recordOfId s id = some r) (h1 : r.stage ≠ .inTransit)
    (h2 : r.stage ≠ .missing) : takeLanded s id = s := by
  unfold takeLanded
  rw [hr]
  dsimp only
  split
  · exact absurd ‹_› h1
  · exact absurd ‹_› h2
  all_goals rfl

theorem takeLanded_of_none {id : PackId} (hr : recordOfId s id = none) : takeLanded s id = s := by
  unfold takeLanded
  rw [hr]

end Sys2Proof.Machine

open Sys2Proof Sys2Proof.Machine

/-- Settles O21: the form, the repeat, the checks in their order, and the reservation at one event. -/
theorem offerIsAnswered : Obligations.OfferIsAnswered := by
  unfold Obligations.OfferIsAnswered
  intro h o s heard
  refine ⟨offerFormed_iff s o, fun out => ?_, isRepeat_iff s h.sender o, fun formed room => ?_⟩
  · rw [exec_offer heard, takeOffer_of_discarded out]
  · intro answer residual
    have taken := (exec_offer (o := o) heard).trans (congrArg Host.Outcome.next (takeOffer_eq formed room))
    refine ⟨fun again => ?_, fun first reason no => ?_, fun first free => ?_, fun z hz => ?_, fun hz => declines_of_no_zone hz o⟩
    · rw [if_pos again] at taken
      exact answersSettled_of_eq taken (queueHandover_of_room room _ _)
    · rw [if_neg (by rw [first]; decide), no, if_neg nofun] at taken
      exact answersSettled_of_eq taken (queueHandover_of_room room _ _)
    · rw [if_neg (by rw [first]; decide), if_pos free] at taken
      exact answersSettled_of_eq taken (reserve_eq o room)
    · rw [declines_eq hz]
      have same : offeredResidual o = residual := rfl
      rw [same]
      cases residual with
      | none => rw [packDeclines_none hz]; simp
      | some e => rw [packDeclines_some hz]; simp

/-- Settles O22: each answer by the bay or the record it finds. -/
theorem handoverAnswersAreTaken : Obligations.HandoverAnswersAreTaken := by
  unfold Obligations.HandoverAnswersAreTaken
  intro h id reason s heard_own long short ended safe
  have heard : (heardOwn s h && packIdLengthOk id) = true := by
    rw [heard_own, (packIdLengthOk_iff id).2 ⟨long, short⟩]
    rfl
  have accepted := exec_accept heard
  have declined := exec_decline reason heard
  have withdrawn := exec_withdraw heard
  have landed := exec_landed heard
  refine ⟨fun b hb => ⟨fun permit => ?_, fun lost => ?_, ?_⟩, fun hb => ⟨fun underway => ?_, fun late => ?_, ?_⟩,
    answeredBay_iff s h.sender id, releaseUnderWay_iff s h.sender id, lateAnswer_of_holder, lateAnswer_of_other, ?_⟩
  · rw [takeAccept_of_bay hb, if_pos permit] at accepted
    exact answersSettled_of_eq accepted rfl
  · rw [takeAccept_of_bay hb, if_neg (by rw [lost]; decide)] at accepted
    exact answersSettled_of_eq accepted rfl
  · have taken : takeDecline s h.sender id reason =
        updHandover (backToSafe (endOffer s b) b) b fun x => { x with lastDecline := some reason } := by
      unfold takeDecline
      rw [hb]
    exact answersSettled_of_eq declined taken
  · rw [takeAccept_of_none hb, if_pos underway] at accepted
    exact answersSettled_of_eq accepted rfl
  · rw [takeAccept_of_none hb, if_neg (by rw [late]; decide)] at accepted
    exact answersSettled_of_eq accepted rfl
  · have taken : takeDecline s h.sender id reason = lateAnswer s h.sender id := by
      unfold takeDecline
      rw [hb]
    exact answersSettled_of_eq declined taken
  · intro removed counted
    refine ⟨fun r hr => ⟨fun stage own => ?_, fun other => ?_, fun stage away => ?_, fun stage inside => ?_, fun stage => ?_,
      fun h1 h2 => ?_⟩, fun hr => ⟨?_, ?_⟩⟩
    · rw [takeWithdraw_of_record hr, if_pos ⟨stage, own⟩] at withdrawn
      exact answersSettled_of_eq withdrawn rfl
    · rw [takeWithdraw_of_record hr, if_neg (by tauto)] at withdrawn
      exact answersSettled_of_eq withdrawn rfl
    · rw [takeLanded_of_inTransit hr stage, if_neg away] at landed
      exact answersSettled_of_eq landed rfl
    · rw [takeLanded_of_inTransit hr stage, if_pos inside] at landed
      exact answersSettled_of_eq landed rfl
    · rw [takeLanded_of_missing hr stage] at landed
      exact answersSettled_of_eq landed rfl
    · rw [takeLanded_of_other hr h1 h2] at landed
      exact answersSettled_of_eq landed rfl
    · rw [takeWithdraw_of_none hr] at withdrawn
      exact answersSettled_of_eq withdrawn rfl
    · rw [takeLanded_of_none hr] at landed
      exact answersSettled_of_eq landed rfl
end

section
/-! SUPPORT. The timers of the zone and its transitions of its own; settles O23 and O24. -/

namespace Sys2Proof.Machine

variable {c : Instr} {s t u : State} {b : BayIdx}

theorem whenServing_of_inService (hs : inService s = true) (f : State → State) : whenServing s f = .next (f s) :=
  congrArg Host.Outcome.next (if_pos hs)

/-! ### Timers of the zone (R91, R94, R95, R103, R108) -/

theorem exec_fpPulseEnd (hs : inService s = true) (ran : due s s.zone.fpUntil = true) :
    exec .fpPulseEnd s = .next { s with zone := { s.zone with fpUntil := none } } :=
  (whenServing_of_inService hs _).trans (congrArg Host.Outcome.next (if_pos ran))

theorem exec_feedDeadlineExpiry (hs : inService s = true) (ran : due s s.zone.feedUntil = true) :
    exec .feedDeadlineExpiry s = .next (settle (expireFeed s)) :=
  (whenServing_of_inService hs _).trans (congrArg Host.Outcome.next (if_pos ran))

theorem exec_purgeTimerExpiry (hs : inService s = true) (st : s.zone.state = .purging) (ran : due s s.zone.purgeUntil = true) :
    exec .purgeTimerExpiry s = .next (settle (pulseRow (enterAir s) .at2)) :=
  (whenServing_of_inService hs _).trans (congrArg Host.Outcome.next (if_pos (by rw [ran, decide_eq_true st]; rfl)))

theorem exec_settleTimerExpiry (hs : inService s = true) (st : s.zone.state = .inert) (ran : due s s.zone.settleUntil = true) :
    exec .settleTimerExpiry s = .next (settle (enterReady s)) :=
  (whenServing_of_inService hs _).trans (congrArg Host.Outcome.next (if_pos (by rw [ran, decide_eq_true st]; rfl)))

theorem exec_floodTimerExpiry (hs : inService s = true) (st : s.zone.state = .fire) (ran : due s s.zone.floodUntil = true) :
    exec .floodTimerExpiry s = .next (settle (expireFlood s)) :=
  (whenServing_of_inService hs _).trans (congrArg Host.Outcome.next (if_pos (by rw [ran, decide_eq_true st]; rfl)))

theorem enterAir_eq (h : s.zone.state ≠ .air) : enterAir s =
    { s with
      zone := { s.zone with
        state := .air, since := nodeCount s, purgeUntil := none, settleUntil := none, floodUntil := none, topUp := false, fpUntil := none } } := by
  simp [enterAir, stopAtmosphere, setZone, updZone, h]

theorem enterReady_eq (h : s.zone.state ≠ .ready) : enterReady s =
    { s with zone := { s.zone with state := .ready, since := nodeCount s, settleUntil := none, fpUntil := none } } := by
  simp [enterReady, setZone, updZone, h]

/-! ### Transitions of the zone (R94 to R103) -/

theorem hasZone_of_cfg {z : ZoneConfig} (hz : zoneCfg s = some z) : hasZone s = true := by
  unfold hasZone
  rw [hz]
  rfl

theorem fireRaised_iff (s : State) :
    fireRaised s = true ↔ raised s .fd1 = true ∨ raised s .fd2 = true ∨ raised s .fd3 = true ∨ raised s .fd4 = true := by
  simp [fireRaised, or_assoc]

/-- The zone hold set, row by row. -/
theorem zoneHeld_iff {z : ZoneConfig} (hz : zoneCfg s = some z) :
    zoneHeld s = true ↔
      ∃ r, (r = .at1 ∨ r = .at3 ∨ r = .at4 ∨ r = .at5 ∨ r = .fd5 ∧ s.causes.remoteFire.sections &&& (1#8 <<< z.section_) ≠ 0) ∧
        (rowState s r).raised = true ∧ (rowState s r).inhibit = none := by
  have section_ : zoneSection s = 1#8 <<< z.section_ := by unfold zoneSection; rw [hz]; rfl
  unfold zoneHeld
  simp only [Bool.or_eq_true, Bool.and_eq_true, bne_iff_ne, section_, reacts_iff]
  constructor
  · rintro ((((h | h) | h) | h) | ⟨h, there⟩)
    · exact ⟨.at1, .inl rfl, h⟩
    · exact ⟨.at3, .inr (.inl rfl), h⟩
    · exact ⟨.at4, .inr (.inr (.inl rfl)), h⟩
    · exact ⟨.at5, .inr (.inr (.inr (.inl rfl))), h⟩
    · exact ⟨.fd5, .inr (.inr (.inr (.inr ⟨rfl, there⟩))), h⟩
  · rintro ⟨r, rfl | rfl | rfl | rfl | ⟨rfl, there⟩, h⟩
    · exact .inl (.inl (.inl (.inl h)))
    · exact .inl (.inl (.inl (.inr h)))
    · exact .inl (.inl (.inr h))
    · exact .inl (.inr h)
    · exact .inr ⟨h, there⟩

theorem zoneReact_of_fire (hz : hasZone s = true) (st : s.zone.state = .fire) :
    zoneReact s = if s.zone.floodUntil = none ∧ fireRaised s = false ∧ s.fire.zoneKept = false then some (leaveFire s) else none := by
  unfold zoneReact
  rw [hz, st]
  rfl

theorem zoneReact_of_purging (hz : hasZone s = true) (st : s.zone.state = .purging) :
    zoneReact s = if s.zmeas.coInert.filtered = true then some (enterInert s) else none := by
  unfold zoneReact
  rw [hz, st]
  rfl

theorem zoneReact_of_inert (hz : hasZone s = true) (st : s.zone.state = .inert) :
    zoneReact s = if s.zmeas.coInert.filtered = true then none else some (enterPurging s) := by
  unfold zoneReact
  rw [hz, st]
  rfl

theorem zoneReact_of_running (hz : hasZone s = true) (st : s.zone.state = .running) :
    zoneReact s = if runPermit s = true then none else some (enterReady s) := by
  unfold zoneReact
  rw [hz, st]
  rfl

theorem zoneReact_of_alarm (hz : hasZone s = true) (st : s.zone.state = .alarm) :
    zoneReact s = if (!zoneHeld s && purgePermit s) = true then some (enterPurging s) else none := by
  unfold zoneReact
  rw [hz, st]
  rfl

theorem zoneReact_of_still (st : s.zone.state = .air ∨ s.zone.state = .ready ∨ s.zone.state = .lockout) : zoneReact s = none := by
  unfold zoneReact
  cases hasZone s with
  | false => rfl
  | true => rcases st with st | st | st <;> rw [st] <;> rfl

theorem leaveFire_facts {z : ZoneConfig} (hz : zoneCfg s = some z) :
    (leaveFire s).zone.state = (if z.lockoutOnFire = true then .lockout else .air) ∧ (leaveFire s).zone.queue = s.zone.queue := by
  unfold leaveFire
  rw [hz]
  cases h : z.lockoutOnFire <;> simp [h, enterLockout, enterAir, stopAtmosphere, setZone]

theorem enterInert_facts {z : ZoneConfig} (hz : zoneCfg s = some z) :
    (enterInert s).zone.state = .inert ∧ (enterInert s).zone.settleUntil = some (s.now + z.settle * 2000) ∧
      (enterInert s).zone.purgeUntil = none ∧ (enterInert s).zone.topUp = s.zmeas.coTop.filtered := by
  unfold enterInert
  rw [hz]
  exact ⟨rfl, rfl, rfl, rfl⟩

theorem enterPurging_facts {z : ZoneConfig} (hz : zoneCfg s = some z) :
    (enterPurging s).zone.state = .purging ∧ (enterPurging s).zone.purgeUntil = some (s.now + z.purgeLimit * 2000) ∧
      (enterPurging s).zone.settleUntil = none ∧ (enterPurging s).zone.topUp = false := by
  unfold enterPurging
  rw [hz]
  exact ⟨rfl, rfl, rfl, rfl⟩

theorem enterFire_facts {z : ZoneConfig} (hz : zoneCfg s = some z) (open_ : s.zone.state ≠ .lockout) :
    (enterFire s).zone.state = .fire ∧ (enterFire s).zone.floodUntil = some (s.now + z.flood * 2000) ∧
      (enterFire s).zone.queue = s.zone.queue := by
  unfold enterFire
  rw [if_pos ⟨hasZone_of_cfg hz, open_⟩, hz]
  exact ⟨rfl, rfl, rfl⟩

theorem enterFire_of_lockout (h : s.zone.state = .lockout) : enterFire s = s := if_neg fun k => k.2 h

theorem zoneWorking_iff (s : State) : zoneWorking s = true ↔
    s.zone.state = .purging ∨ s.zone.state = .inert ∨ s.zone.state = .ready ∨ s.zone.state = .running := decide_eq_true_iff

theorem obeyZone_of_held (h : zoneHeld s = true) (working : zoneWorking s = true) : obeyZone s = enterAlarm s := by
  unfold obeyZone
  rw [h, working]
  rfl

theorem obeyZone_of_tripped (h : zoneHeld s = false) (st : s.zone.state = .running) (trip : chamberTripped s = true) :
    obeyZone s = enterReady s := by
  unfold obeyZone
  rw [h, Bool.and_false, if_neg Bool.false_ne_true, decide_eq_true st, trip]
  rfl

theorem obeyZone_of_still (h : zoneWorking s = false) : obeyZone s = s := by
  have away : s.zone.state ≠ .running := fun e => by
    rw [(zoneWorking_iff s).2 (.inr (.inr (.inr e)))] at h
    cases h
  unfold obeyZone
  rw [h, decide_eq_false away]
  rfl

/-- FEED stands on a WAITING head alone (R107, R153). -/
theorem head_of_feedPermit (h : feedPermit s = true) : ∃ id rest, s.zone.queue = id :: rest ∧ slotStage s id = some .waiting := by
  have waits : headWaiting s = true := by
    unfold feedPermit at h
    simp only [Bool.and_eq_true] at h
    exact h.1.2
  unfold headWaiting at waits
  cases queue : s.zone.queue with
  | nil => rw [queue] at waits; cases waits
  | cons id rest =>
    rw [queue] at waits
    rw [Bool.and_eq_true, decide_eq_true_iff] at waits
    exact ⟨id, rest, rfl, waits.1⟩

theorem feedReact_of_permit {z : ZoneConfig} {id : PackId} {rest : List PackId} (hz : zoneCfg s = some z) (h : feedPermit s = true)
    (queue : s.zone.queue = id :: rest) :
    feedReact s = some
      { updRecordOfId s id (fun r => { r with stage := .feeding, stageSince := nodeTime s }) with
        zone := { s.zone with fpUntil := some (s.now + 1000), feedUntil := some (s.now + z.feedLimit * 2000) } } := by
  have limit : zoneCfg (updRecordOfId s id (toStage s .feeding)) = some z := hz
  unfold feedReact startFeed
  rw [if_pos h, queue]
  dsimp only
  rw [limit]
  rfl

theorem slotStage_updRecordOfId {id : PackId} {st : Stage} (f : PackRecord → PackRecord) (there : slotStage s id = some st)
    (keeps : ∀ r, (f r).id = r.id) (stage : ∀ r, (f r).stage = .feeding) : slotStage (updRecordOfId s id f) id = some .feeding := by
  unfold slotStage at there ⊢
  obtain ⟨r, hr, -⟩ := Option.map_eq_some_iff.1 there
  rw [recordOfId_updRecordOfId_self hr (keeps r)]
  exact congrArg some (stage r)

end Sys2Proof.Machine

open Sys2Proof Sys2Proof.Machine

/-- Settles O23: each timer of the zone acts once its interval has run. -/
theorem zoneIntervalsEnd : Obligations.ZoneIntervalsEnd := by
  unfold Obligations.ZoneIntervalsEnd
  intro u s hs ran
  refine ⟨fun pulse => ?_, fun feed => ⟨fun id rest queue feeding => ?_, fun other => ?_⟩, fun st purge => ?_, fun st settles => ?_,
    fun st flood => ?_⟩
  · exact ⟨_, exec_fpPulseEnd hs (due_of_some pulse ran), rfl, by simp [outFP]⟩
  · have head : headFeeding s = true := (headFeeding_iff s).2 ⟨id, by rw [queue]; rfl, feeding⟩
    have expired := exec_feedDeadlineExpiry hs (due_of_some feed ran)
    rw [expireFeed_eq, if_pos head] at expired
    exact answersSettled_of_eq expired rfl
  · have idle : ¬headFeeding s = true := by
      rw [headFeeding_iff]
      rintro ⟨id, head, feeding⟩
      obtain ⟨rest, queue⟩ := List.head?_eq_some_iff.1 head
      exact other id rest queue feeding
    have expired := exec_feedDeadlineExpiry hs (due_of_some feed ran)
    rw [expireFeed_eq, if_neg idle] at expired
    exact answersSettled_of_eq expired rfl
  · have expired := exec_purgeTimerExpiry hs st (due_of_some purge ran)
    rw [enterAir_eq (by rw [st]; decide)] at expired
    exact answersSettled_of_eq expired rfl
  · have expired := exec_settleTimerExpiry hs st (due_of_some settles ran)
    rw [enterReady_eq (by rw [st]; decide)] at expired
    exact answersSettled_of_eq expired rfl
  · exact answersSettled_of_eq (exec_floodTimerExpiry hs st (due_of_some flood ran)) rfl

/-- Settles O24: the reactions of the zone state by state, and what each transition writes. -/
theorem zoneTransitions : Obligations.ZoneTransitions := by
  unfold Obligations.ZoneTransitions
  intro z s hz
  have present := hasZone_of_cfg hz
  refine ⟨fireRaised_iff s, zoneHeld_iff hz, fun st ended low free => ?_, fun st stays => ?_, fun st lost => ?_, fun st kept => ?_,
    fun st lost => ?_, fun st kept => ?_, fun st lost => ?_, fun st permit => ?_, fun st free permit => ?_, fun st stays => ?_,
    zoneReact_of_still, fun hold working => ?_, fun free st trip => ?_, fun still => ?_, fun away => enterFire_facts hz away,
    enterFire_of_lockout, fun no => ?_, fun permit => ?_⟩
  · obtain ⟨state, queue⟩ := leaveFire_facts hz
    exact ⟨_, (zoneReact_of_fire present st).trans (if_pos ⟨ended, low, free⟩), state, queue⟩
  · refine (zoneReact_of_fire present st).trans (if_neg ?_)
    rintro ⟨ended, low, free⟩
    rcases stays with h | h | h
    · exact h ended
    · rw [low] at h; cases h
    · rw [free] at h; cases h
  · exact ⟨_, (zoneReact_of_purging present st).trans (if_pos lost), enterInert_facts hz⟩
  · exact (zoneReact_of_purging present st).trans (if_neg (by rw [kept]; decide))
  · exact ⟨_, (zoneReact_of_inert present st).trans (if_neg (by rw [lost]; decide)), enterPurging_facts hz⟩
  · exact (zoneReact_of_inert present st).trans (if_pos kept)
  · exact ⟨_, (zoneReact_of_running present st).trans (if_neg (by rw [lost]; decide)), rfl, rfl⟩
  · exact (zoneReact_of_running present st).trans (if_pos permit)
  · obtain ⟨state, until_, -⟩ := enterPurging_facts hz
    exact ⟨_, (zoneReact_of_alarm present st).trans (if_pos (by rw [free, permit]; rfl)), state, until_⟩
  · refine (zoneReact_of_alarm present st).trans (if_neg ?_)
    rcases stays with h | h <;> rw [h] <;> simp
  · rw [obeyZone_of_held hold ((zoneWorking_iff s).2 working)]
    exact ⟨rfl, rfl, rfl⟩
  · rw [obeyZone_of_tripped free st trip]
    rfl
  · refine obeyZone_of_still (Bool.eq_false_of_not_eq_true fun working => ?_)
    rw [zoneWorking_iff] at working
    rcases still with h | h | h | h <;> rw [h] at working <;> simp at working
  · unfold feedReact
    rw [no]
    rfl
  · obtain ⟨id, rest, queue, waiting⟩ := head_of_feedPermit permit
    exact ⟨id, rest, queue, feedReact_of_permit hz permit queue, slotStage_updRecordOfId _ waiting (fun _ => rfl) fun _ => rfl⟩
end

section
/-! SUPPORT. The dwell timers as an event leaves them: passes over the definitions until no done flag moves; settles O25. -/

namespace Sys2Proof.Machine

variable {c : Instr} {s t u : State} {k : TimerDef} {defs : List TimerDef} {ts : Vector Timer 16}

/-! ### One timer (R160, R163) -/

theorem timerAfter_of_false (s : State) (k : TimerDef) (x : Timer) : timerAfter s k false x = { state := .idle, elapsed := 0, stepFrom := 0 } :=
  rfl

theorem timerAfter_of_running {x : Timer} (h : x.state ≠ .idle) : timerAfter s k true x = x := if_neg h

theorem credited_iff (k : TimerDef) :
    credited k = true ↔ k.input.positive = true ∧ (k.input.kind = some .peerZoneReady ∨ k.input.kind = some .peerZoneRunning) := by
  simp [credited]

/-- A timer that is not credited starts at 0. -/
theorem timerAfter_of_start {x : Timer} (hk : 1 ≤ k.preset) (h : x.state = .idle) (bare : ¬credited k = true) :
    timerAfter s k true x = { state := .timing, elapsed := 0, stepFrom := nodeCount s } := by
  have far : ¬0 = k.preset := by omega
  unfold timerAfter
  rw [if_pos rfl, if_pos h, if_neg bare]
  exact congrArg (fun st => ({ state := st, elapsed := 0, stepFrom := nodeCount s } : Timer)) (if_neg far)

/-- A credited timer starts at the age its peer reported, within the preset. -/
theorem timerAfter_of_credit {x : Timer} (h : x.state = .idle) (cr : credited k = true) :
    timerAfter s k true x =
      { state := if min k.preset (peerAge s k.input) = k.preset then .done else .timing, elapsed := min k.preset (peerAge s k.input)
        stepFrom := nodeCount s } := by
  unfold timerAfter
  rw [if_pos rfl, if_pos h, if_pos cr]

theorem timerAfter_true_state (s : State) (k : TimerDef) (x : Timer) : (timerAfter s k true x).state ≠ .idle := by
  unfold timerAfter
  rw [if_pos rfl]
  split
  · dsimp only
    split <;> split <;> decide
  · assumption

theorem timerAfter_timerAfter (s : State) (k : TimerDef) (input : Bool) (x : Timer) :
    timerAfter s k input (timerAfter s k input x) = timerAfter s k input x := by
  cases input with
  | false => rfl
  | true => exact timerAfter_of_running (timerAfter_true_state s k x)

/-- A timer fed by another's done flag is never made DONE by its input. -/
theorem done_of_timerAfter {input : Bool} {x : Timer} (hk : 1 ≤ k.preset) (fed : k.input.kind = some .dwell)
    (h : (timerAfter s k input x).state = .done) : x.state = .done := by
  have bare : ¬credited k = true := by
    rw [credited_iff, fed]
    rintro ⟨-, e | e⟩ <;> cases e
  cases input with
  | false => cases h
  | true =>
    by_cases idle : x.state = .idle
    · rw [timerAfter_of_start hk idle bare] at h
      cases h
    · rwa [timerAfter_of_running idle] at h

/-! ### What an input reads of the timers -/

/-- A timer is DONE. -/
def isDone (x : Timer) : Bool := decide (x.state = .done)

/-- An input that reads no dwell timer does not depend on them. -/
theorem literalHolds_of_not_dwell {l : Literal} (h : l.kind ≠ some .dwell) (ts us : Vector Timer 16) :
    literalHolds s ts l = literalHolds s us l := by
  unfold literalHolds
  cases kind : l.kind with
  | none => rfl
  | some q => cases q <;> first | rfl | exact absurd kind h

theorem literalHolds_of_dwell {l : Literal} (h : l.kind = some .dwell) (ts : Vector Timer 16) :
    literalHolds s ts l = (((ts[l.index.getD 0]?).map isDone).getD false == l.positive) := by
  unfold literalHolds
  rw [h]
  rfl

/-- An input reads one done flag at most. -/
theorem literalHolds_congr {l : Literal} {ts us : Vector Timer 16} (h : ∀ d : Fin 16, isDone ts[d] = isDone us[d]) :
    literalHolds s ts l = literalHolds s us l := by
  by_cases kind : l.kind = some .dwell
  · rw [literalHolds_of_dwell kind, literalHolds_of_dwell kind]
    by_cases inside : l.index.getD 0 < 16
    · have same := h ⟨l.index.getD 0, inside⟩
      simp only [Fin.getElem_fin] at same
      simp [Vector.getElem?_eq_getElem inside, same]
    · simp [Vector.getElem?_eq_none (Nat.not_lt.1 inside)]
  · exact literalHolds_of_not_dwell kind ts us

/-- An input that reads true on two sets of timers reads true where every flag is that of one of them. -/
theorem literalHolds_between {l : Literal} {ts us vs : Vector Timer 16} (ht : literalHolds s ts l = true) (hu : literalHolds s us l = true)
    (h : ∀ d : Fin 16, isDone vs[d] = isDone ts[d] ∨ isDone vs[d] = isDone us[d]) : literalHolds s vs l = true := by
  by_cases kind : l.kind = some .dwell
  · rw [literalHolds_of_dwell kind] at ht hu ⊢
    by_cases inside : l.index.getD 0 < 16
    · have one := h ⟨l.index.getD 0, inside⟩
      simp only [Fin.getElem_fin] at one
      simp only [Vector.getElem?_eq_getElem inside, Option.map_some, Option.getD_some] at ht hu ⊢
      rcases one with e | e <;> rw [e] <;> assumption
    · simpa [Vector.getElem?_eq_none (Nat.not_lt.1 inside)] using ht
  · rwa [literalHolds_of_not_dwell kind vs ts]

/-! ### One pass -/

/-- One timer judged in a pass. -/
def timerStep (s : State) (ts : Vector Timer 16) (k : TimerDef) : Vector Timer 16 :=
  if h : k.number < 16 then ts.set k.number (timerAfter s k (literalHolds s ts k.input) ts[k.number]) h else ts

theorem timerPass_eq (s : State) (defs : List TimerDef) (ts : Vector Timer 16) : timerPass s defs ts = defs.foldl (timerStep s) ts := rfl

theorem timerStep_other {d : Fin 16} (h : k.number ≠ d.val) : (timerStep s ts k)[d] = ts[d] := by
  unfold timerStep
  split
  · simp only [Fin.getElem_fin, Vector.getElem_set_ne _ _ h]
  · rfl

theorem timerStep_own {d : Fin 16} (h : k.number = d.val) :
    (timerStep s ts k)[d] = timerAfter s k (literalHolds s ts k.input) ts[d] := by
  obtain ⟨n, hn⟩ := d
  change k.number = n at h
  subst h
  unfold timerStep
  rw [dif_pos hn]
  simp only [Fin.getElem_fin, Vector.getElem_set_self]

/-- A timer that no definition of the list is about stays. -/
theorem timerSteps_other {d : Fin 16} (h : ∀ k ∈ defs, k.number ≠ d.val) (ts : Vector Timer 16) :
    (defs.foldl (timerStep s) ts)[d] = ts[d] := by
  induction defs generalizing ts with
  | nil => rfl
  | cons k ks ih => exact (ih (fun x hx => h x (.tail _ hx)) _).trans (timerStep_other (h k (.head _)))

/-- A pass judges each defined timer once, on flags each of which is that of before the pass or of after it. -/
theorem timerPass_own (once : (defs.map TimerDef.number).Nodup) (hk : k ∈ defs) (ts : Vector Timer 16) :
    ∃ mid : Vector Timer 16, (∀ d : Fin 16, mid[d] = ts[d] ∨ mid[d] = (timerPass s defs ts)[d]) ∧
      ∀ d : Fin 16, k.number = d.val → (timerPass s defs ts)[d] = timerAfter s k (literalHolds s mid k.input) ts[d] := by
  rw [timerPass_eq]
  induction defs generalizing ts with
  | nil => cases hk
  | cons x xs ih =>
    rw [List.map_cons, List.nodup_cons] at once
    obtain ⟨fresh, once⟩ := once
    rcases List.mem_cons.1 hk with rfl | hk
    · refine ⟨ts, fun _ => .inl rfl, fun d hd => ?_⟩
      have away : ∀ y ∈ xs, y.number ≠ d.val := fun y hy e => fresh (hd.trans e.symm ▸ List.mem_map_of_mem hy)
      exact (timerSteps_other away _).trans (timerStep_own hd)
    · obtain ⟨mid, between, own⟩ := ih once hk (timerStep s ts x)
      have apart : x.number ≠ k.number := fun e => fresh (e ▸ List.mem_map_of_mem hk)
      refine ⟨mid, fun d => ?_, fun d hd => ?_⟩
      · by_cases e : x.number = d.val
        · have away : ∀ y ∈ xs, y.number ≠ d.val := fun y hy e' => fresh (e.trans e'.symm ▸ List.mem_map_of_mem hy)
          have still : (xs.foldl (timerStep s) (timerStep s ts x))[d] = (timerStep s ts x)[d] := timerSteps_other away _
          exact .inr ((between d).elim (fun h => h.trans still.symm) id)
        · rw [← timerStep_other (s := s) (ts := ts) e]
          exact between d
      · rw [List.foldl_cons, own d hd, timerStep_other fun e => apart (e.trans hd.symm)]

/-- A pass on timers that all agree with their inputs changes nothing. -/
theorem timerPass_of_settled (h : ∀ k ∈ defs, ∀ d : Fin 16, k.number = d.val → timerAfter s k (literalHolds s ts k.input) ts[d] = ts[d]) :
    timerPass s defs ts = ts := by
  rw [timerPass_eq]
  induction defs with
  | nil => rfl
  | cons k ks ih =>
    have still : timerStep s ts k = ts := by
      refine Vector.ext fun i hi => ?_
      by_cases e : k.number = i
      · exact (timerStep_own (d := ⟨i, hi⟩) e).trans (h k (.head _) ⟨i, hi⟩ e)
      · exact timerStep_other (d := ⟨i, hi⟩) e
    rw [List.foldl_cons, still]
    exact ih fun x hx => h x (.tail _ hx)

/-! ### Passes until no done flag moves (R158) -/

/-- Every defined timer agrees with its input. -/
def Settled (s : State) (defs : List TimerDef) (ts : Vector Timer 16) : Prop :=
  ∀ k ∈ defs, ∀ d : Fin 16, k.number = d.val → timerAfter s k (literalHolds s ts k.input) ts[d] = ts[d]

/-- Every defined timer that reads no other timer agrees with its input. -/
def PeerSettled (s : State) (defs : List TimerDef) (ts : Vector Timer 16) : Prop :=
  ∀ k ∈ defs, k.input.kind ≠ some .dwell → ∀ d : Fin 16, k.number = d.val → timerAfter s k (literalHolds s ts k.input) ts[d] = ts[d]

/-- A definition's timer reads another timer, and is DONE. -/
def fedDone (ts : Vector Timer 16) (k : TimerDef) : Bool :=
  decide (k.input.kind = some .dwell) && ((ts[k.number]?).map isDone).getD false

/-- The number of DONE timers that read another timer. -/
def doneFed (defs : List TimerDef) (ts : Vector Timer 16) : Nat := defs.countP (fedDone ts)

theorem timerPasses_of_settled (h : Settled s defs ts) (n : Nat) : timerPasses s defs n ts = ts := by
  induction n with
  | zero => rfl
  | succ n ih =>
    unfold timerPasses
    rw [timerPass_of_settled h]
    exact ih

/-- A timer that reads no other takes its input once, and keeps it. -/
theorem timerPass_peer (once : (defs.map TimerDef.number).Nodup) (hk : k ∈ defs) (peer : k.input.kind ≠ some .dwell) {d : Fin 16}
    (hd : k.number = d.val) (us : Vector Timer 16) : (timerPass s defs ts)[d] = timerAfter s k (literalHolds s us k.input) ts[d] := by
  obtain ⟨mid, -, own⟩ := timerPass_own (s := s) once hk ts
  rw [own d hd, literalHolds_of_not_dwell peer mid us]

theorem peerSettled_timerPass (once : (defs.map TimerDef.number).Nodup) (ts : Vector Timer 16) :
    PeerSettled s defs (timerPass s defs ts) := by
  intro k hk peer d hd
  rw [timerPass_peer once hk peer hd (timerPass s defs ts), timerAfter_timerAfter]

/-- Where a pass moves no done flag it leaves every timer in agreement with its input. -/
theorem settled_timerPass (once : (defs.map TimerDef.number).Nodup)
    (still : ∀ d : Fin 16, isDone (timerPass s defs ts)[d] = isDone ts[d]) : Settled s defs (timerPass s defs ts) := by
  intro k hk d hd
  obtain ⟨mid, between, own⟩ := timerPass_own (s := s) once hk ts
  have flags : ∀ e : Fin 16, isDone mid[e] = isDone (timerPass s defs ts)[e] := fun e => by
    rcases between e with h | h
    · rw [h, still e]
    · rw [h]
  rw [own d hd, literalHolds_congr flags, timerAfter_timerAfter]

/-- A pass never makes a timer that reads another DONE. -/
theorem done_of_timerPass (sound : DefsSound defs) (hk : k ∈ defs) (fed : k.input.kind = some .dwell) {d : Fin 16} (hd : k.number = d.val)
    (h : isDone (timerPass s defs ts)[d] = true) : isDone ts[d] = true := by
  obtain ⟨mid, -, own⟩ := timerPass_own (s := s) sound.1 hk ts
  rw [own d hd] at h
  exact decide_eq_true (done_of_timerAfter (sound.2 k hk).2 fed (of_decide_eq_true h))

theorem fedDone_iff (ts : Vector Timer 16) {d : Fin 16} (hd : k.number = d.val) :
    fedDone ts k = true ↔ k.input.kind = some .dwell ∧ isDone ts[d] = true := by
  unfold fedDone
  rw [Bool.and_eq_true, decide_eq_true_iff, hd, Vector.getElem?_eq_getElem d.isLt]
  rfl

theorem fedDone_of_timerPass (sound : DefsSound defs) (hk : k ∈ defs) (h : fedDone (timerPass s defs ts) k = true) :
    fedDone ts k = true := by
  have here : k.number = (⟨k.number, (sound.2 k hk).1⟩ : Fin 16).val := rfl
  rw [fedDone_iff _ here] at h ⊢
  exact ⟨h.1, done_of_timerPass sound hk h.1 here h.2⟩

theorem doneFed_timerPass_le (sound : DefsSound defs) (ts : Vector Timer 16) : doneFed defs (timerPass s defs ts) ≤ doneFed defs ts :=
  List.countP_mono_left fun _ hk h => fedDone_of_timerPass sound hk h

/-- Fewer elements have the narrower property where one has the wider alone. -/
theorem countP_lt_countP {α : Type} {p q : α → Bool} {l : List α} {a : α} (h : ∀ x ∈ l, p x = true → q x = true) (ha : a ∈ l)
    (hq : q a = true) (hp : p a = false) : l.countP p < l.countP q := by
  obtain ⟨ahead, behind, rfl⟩ := List.append_of_mem ha
  have before := List.countP_mono_left fun x hx => h x (List.mem_append_left _ hx)
  have after := List.countP_mono_left fun x hx => h x (List.mem_append_right _ (List.mem_cons_of_mem a hx))
  rw [List.countP_append, List.countP_append, List.countP_cons_of_pos hq, List.countP_cons_of_neg (by rw [hp]; decide)]
  omega

/-- Where the timers that read no other agree with their inputs, a pass that moves a done flag takes one from a timer that reads another. -/
theorem doneFed_timerPass_lt (sound : DefsSound defs) (peers : PeerSettled s defs ts)
    (moved : ¬∀ d : Fin 16, isDone (timerPass s defs ts)[d] = isDone ts[d]) : doneFed defs (timerPass s defs ts) < doneFed defs ts := by
  rw [not_forall] at moved
  obtain ⟨d, moved⟩ := moved
  have defined : ∃ k ∈ defs, k.number = d.val := by
    by_contra none_
    refine moved (congrArg isDone ?_)
    rw [timerPass_eq]
    exact timerSteps_other (fun k hk e => none_ ⟨k, hk, e⟩) ts
  obtain ⟨k, hk, hd⟩ := defined
  have fed : k.input.kind = some .dwell := by
    by_contra peer
    refine moved (congrArg isDone ?_)
    rw [timerPass_peer sound.1 hk peer hd ts]
    exact peers k hk peer d hd
  have lost : isDone ts[d] = true ∧ isDone (timerPass s defs ts)[d] = false := by
    have kept := done_of_timerPass (s := s) (ts := ts) sound hk fed hd
    revert moved kept
    cases isDone (timerPass s defs ts)[d] <;> cases isDone ts[d] <;> simp
  refine countP_lt_countP (fun x hx => fedDone_of_timerPass sound hx) hk ((fedDone_iff _ hd).2 ⟨fed, lost.1⟩) ?_
  rw [← Bool.not_eq_true, fedDone_iff _ hd, lost.2]
  simp

/-- Enough passes leave every defined timer in agreement with its input. -/
theorem settled_timerPasses (sound : DefsSound defs) (n : Nat) (ts : Vector Timer 16) (peers : PeerSettled s defs ts)
    (few : doneFed defs ts ≤ n) : Settled s defs (timerPasses s defs (n + 1) ts) := by
  induction n generalizing ts with
  | zero =>
    refine settled_timerPass sound.1 (not_not.1 fun moved => ?_)
    have fewer := doneFed_timerPass_lt sound peers moved
    omega
  | succ n ih =>
    by_cases still : ∀ d : Fin 16, isDone (timerPass s defs ts)[d] = isDone ts[d]
    · have rest := settled_timerPass sound.1 still
      have same : timerPasses s defs (n + 1 + 1) ts = timerPass s defs ts := timerPasses_of_settled rest (n + 1)
      rw [same]
      exact rest
    · have fewer := doneFed_timerPass_lt sound peers still
      exact ih (timerPass s defs ts) (peerSettled_timerPass sound.1 ts) (by omega)

/-- One pass more than there are definitions is enough (R158). -/
theorem settled_timersAfter (sound : DefsSound (cfg s).timers) (before : Vector Timer 16) :
    Settled s (cfg s).timers (timersAfter s before) := by
  unfold timersAfter
  generalize (cfg s).timers = defs at sound
  by_cases all_fed : ∀ k ∈ defs, k.input.kind = some .dwell
  · exact settled_timerPasses sound defs.length before (fun k hk peer => absurd (all_fed k hk) peer) (List.countP_le_length ..)
  · obtain ⟨k, hk, peer⟩ : ∃ k ∈ defs, k.input.kind ≠ some .dwell := by simpa using all_fed
    have some_peer : doneFed defs (timerPass s defs before) < defs.length := by
      refine List.countP_lt_length_iff.2 ⟨k, hk, ?_⟩
      unfold fedDone
      rw [decide_eq_false peer, Bool.false_and]
    obtain ⟨n, hn⟩ : ∃ n, defs.length = n + 1 := ⟨defs.length - 1, by omega⟩
    rw [hn]
    exact settled_timerPasses sound n (timerPass s defs before) (peerSettled_timerPass sound.1 before) (by omega)

/-! ### What passes leave of one timer -/

theorem timerPass_undefined {d : Fin 16} (h : ∀ k ∈ defs, k.number ≠ d.val) (ts : Vector Timer 16) :
    (timerPass s defs ts)[d] = ts[d] := timerSteps_other h ts

theorem timerPasses_undefined {d : Fin 16} (h : ∀ k ∈ defs, k.number ≠ d.val) (n : Nat) (ts : Vector Timer 16) :
    (timerPasses s defs n ts)[d] = ts[d] := by
  induction n generalizing ts with
  | zero => rfl
  | succ n ih => exact (ih (timerPass s defs ts)).trans (timerPass_undefined h ts)

theorem timerPasses_peer (once : (defs.map TimerDef.number).Nodup) (hk : k ∈ defs) (peer : k.input.kind ≠ some .dwell) {d : Fin 16}
    (hd : k.number = d.val) (n : Nat) (us : Vector Timer 16) (ts : Vector Timer 16) :
    (timerPasses s defs (n + 1) ts)[d] = timerAfter s k (literalHolds s us k.input) ts[d] := by
  induction n generalizing ts with
  | zero => exact timerPass_peer once hk peer hd us
  | succ n ih =>
    have rest := ih (timerPass s defs ts)
    rw [timerPass_peer once hk peer hd us, timerAfter_timerAfter] at rest
    exact rest

/-- A timer that reads another and is IDLE stays IDLE or starts at 0. -/
theorem timerPasses_idle (sound : DefsSound defs) (hk : k ∈ defs) (fed : k.input.kind = some .dwell) {d : Fin 16} (hd : k.number = d.val)
    (n : Nat) (ts : Vector Timer 16)
    (h : ts[d].state = .idle ∨ ts[d] = { state := .timing, elapsed := 0, stepFrom := nodeCount s }) :
    (timerPasses s defs n ts)[d].state = .idle ∨
      (timerPasses s defs n ts)[d] = { state := .timing, elapsed := 0, stepFrom := nodeCount s } := by
  induction n generalizing ts with
  | zero => exact h
  | succ n ih =>
    refine ih (timerPass s defs ts) ?_
    obtain ⟨mid, -, own⟩ := timerPass_own (s := s) sound.1 hk ts
    have bare : ¬credited k = true := by
      rw [credited_iff, fed]
      rintro ⟨-, e | e⟩ <;> cases e
    rw [own d hd]
    cases literalHolds s mid k.input with
    | false => exact .inl rfl
    | true =>
      rcases h with h | h
      · exact .inr (timerAfter_of_start (sound.2 k hk).2 h bare)
      · refine .inr ?_
        rw [h]
        exact timerAfter_of_running nofun

theorem done_of_timerPasses (sound : DefsSound defs) (hk : k ∈ defs) (fed : k.input.kind = some .dwell) {d : Fin 16} (hd : k.number = d.val)
    (n : Nat) (ts : Vector Timer 16) (h : isDone (timerPasses s defs n ts)[d] = true) : isDone ts[d] = true := by
  induction n generalizing ts with
  | zero => exact h
  | succ n ih => exact done_of_timerPass sound hk fed hd (ih (timerPass s defs ts) h)

/-- After a pass every flag is that of before the pass, or that of the last pass. -/
theorem flags_between (sound : DefsSound defs) (n : Nat) (ts : Vector Timer 16) (d : Fin 16) :
    isDone (timerPass s defs ts)[d] = isDone ts[d] ∨ isDone (timerPass s defs ts)[d] = isDone (timerPasses s defs (n + 1) ts)[d] := by
  by_cases defined : ∃ k ∈ defs, k.number = d.val
  · obtain ⟨k, hk, hd⟩ := defined
    by_cases fed : k.input.kind = some .dwell
    · have first : isDone (timerPass s defs ts)[d] = true → isDone ts[d] = true := done_of_timerPass sound hk fed hd
      have later : isDone (timerPasses s defs (n + 1) ts)[d] = true → isDone (timerPass s defs ts)[d] = true :=
        done_of_timerPasses sound hk fed hd n (timerPass s defs ts)
      revert first later
      cases isDone (timerPass s defs ts)[d] <;> cases isDone ts[d] <;> cases isDone (timerPasses s defs (n + 1) ts)[d] <;> simp
    · right
      rw [timerPasses_peer sound.1 hk fed hd n ts ts, timerPass_peer sound.1 hk fed hd ts]
  · left
    rw [timerPass_undefined (fun k hk e => defined ⟨k, hk, e⟩)]

/-- A running timer whose input reads true before and after the event goes on. -/
theorem timerPasses_running (sound : DefsSound defs) (hk : k ∈ defs) {d : Fin 16} (hd : k.number = d.val) (n : Nat) (ts : Vector Timer 16)
    (runs : ts[d].state ≠ .idle) (first : literalHolds s ts k.input = true)
    (last : literalHolds s (timerPasses s defs n ts) k.input = true) : (timerPasses s defs n ts)[d] = ts[d] := by
  induction n generalizing ts with
  | zero => rfl
  | succ n ih =>
    have next : literalHolds s (timerPass s defs ts) k.input = true := literalHolds_between first last (flags_between sound n ts)
    obtain ⟨mid, between, own⟩ := timerPass_own (s := s) sound.1 hk ts
    have middle : literalHolds s mid k.input = true :=
      literalHolds_between first next fun e => (between e).imp (congrArg isDone) (congrArg isDone)
    have kept : (timerPass s defs ts)[d] = ts[d] := by
      rw [own d hd, middle, timerAfter_of_running runs]
    exact (ih (timerPass s defs ts) (by rw [kept]; exact runs) next last).trans kept

/-! ### Their definitions -/

theorem mem_of_timerDef {d : Nat} (h : timerDef s d = some k) : k ∈ (cfg s).timers ∧ k.number = d := by
  unfold timerDef at h
  exact ⟨List.mem_of_find?_eq_some h, by simpa using List.find?_some h⟩

theorem not_mem_of_timerDef {d : Nat} (h : timerDef s d = none) : ∀ k ∈ (cfg s).timers, k.number ≠ d := by
  unfold timerDef at h
  rw [List.find?_eq_none] at h
  intro k hk
  simpa using h k hk

/-! ### Expiries of the fire logic, of dwell timers and of inhibits (R116, R123, R140, R161) -/

theorem exec_persistenceTimerExpiry (hs : inService s = true) (n : Fin 4) :
    exec (.persistenceTimerExpiry n) s = .next (if (s.fire.det[n].active && dueCount s s.fire.det[n].persistUntil) = true then
      settle (updDetector s n fun d => { d with persistUntil := none, persisted := true }) else s) := whenServing_of_inService hs _

theorem exec_reformationTimerExpiry (hs : inService s = true) :
    exec .reformationTimerExpiry s = .next (if due s s.fire.reformUntil = true then
      settle (updFire s fun f => { f with held := Vector.replicate 4 false, reformUntil := none, zoneKept := false }) else s) :=
  whenServing_of_inService hs _

theorem exec_dwellTimerStep (hs : inService s = true) {d : Fin 16} (hk : timerDef s d.val = some k) :
    exec (.dwellTimerStep d) s =
      .next (if (decide (s.timers[d].state = .timing) && decide (s.timers[d].stepFrom + 10 ≤ nodeCount s)) = true then
        settle (updTimer s d (stepTimer k.preset)) else s) := by
  simp only [exec, execDwellTimerStep]
  rw [whenServing_of_inService hs, hk]

/-- A step before its time, or of a timer that is not TIMING, does nothing. -/
theorem exec_dwellTimerStep_of_early {d : Fin 16} (h : s.timers[d].state ≠ .timing ∨ nodeCount s < s.timers[d].stepFrom + 10) :
    exec (.dwellTimerStep d) s = .next s := by
  have fails : (decide (s.timers[d].state = .timing) && decide (s.timers[d].stepFrom + 10 ≤ nodeCount s)) = false := by
    rw [Bool.and_eq_false_iff]
    exact h.imp decide_eq_false fun early => decide_eq_false (Nat.not_le.2 early)
  by_cases hs : inService s = true
  · cases hk : timerDef s d.val with
    | none =>
      simp only [exec, execDwellTimerStep]
      rw [whenServing_of_inService hs, hk]
    | some k => rw [exec_dwellTimerStep hs hk, fails, if_neg Bool.false_ne_true]
  · exact congrArg Host.Outcome.next (if_neg hs)

theorem exec_inhibitExpiry (hs : inService s = true) (r : Row) :
    exec (.inhibitExpiry r) s = .next (if due s (rowState s r).inhibit = true then
      settle (updRow s r fun x => { x with inhibit := none }) else s) := whenServing_of_inService hs _

end Sys2Proof.Machine

open Sys2Proof Sys2Proof.Machine

/-- Settles O25: the expiries, one timer's steps, and the passes of an event, which end with every timer in agreement with its input. -/
theorem timersOfFireDwellAndInhibit : Obligations.TimersOfFireDwellAndInhibit := by
  unfold Obligations.TimersOfFireDwellAndInhibit
  refine ⟨fun u s hs => ⟨fun n active until_ ran => ?_, fun n until_ early => ?_, fun until_ ran => ?_, fun until_ early => ?_⟩,
    fun d k s hs hk timing ran => ?_, fun d s early => exec_dwellTimerStep_of_early early, fun r u s hs until_ => ⟨fun ran => ?_, fun early => ?_⟩,
    fun s k x hk => ⟨timerAfter_of_false s k x, timerAfter_of_running, fun idle bare => ?_, fun p report idle pos kind index reported => ?_⟩,
    fun s before d sound => ⟨fun k hk peer => ?_, fun undefined => ?_, fun k hk => ?_⟩⟩
  · have reached : (s.fire.det[n].active && dueCount s s.fire.det[n].persistUntil) = true := by
      rw [active, (dueCount_iff s _).2 ⟨u, until_, ran⟩]; rfl
    exact answersSettled_of_eq ((exec_persistenceTimerExpiry hs n).trans (congrArg Host.Outcome.next (if_pos reached))) rfl
  · have early : ¬(s.fire.det[n].active && dueCount s s.fire.det[n].persistUntil) = true := by
      rw [Bool.and_eq_true, dueCount_iff, until_]
      rintro ⟨-, v, hv, hle⟩
      cases hv
      omega
    rw [exec_persistenceTimerExpiry hs n, if_neg early]
  · exact answersSettled_of_eq ((exec_reformationTimerExpiry hs).trans (congrArg Host.Outcome.next (if_pos (due_of_some until_ ran)))) rfl
  · rw [exec_reformationTimerExpiry hs, until_, due_of_early fun v hv => Option.some.inj hv ▸ early, if_neg Bool.false_ne_true]
  · have reached : (decide (s.timers[d].state = .timing) && decide (s.timers[d].stepFrom + 10 ≤ nodeCount s)) = true := by
      rw [decide_eq_true timing, decide_eq_true ran]; rfl
    exact answersSettled_of_eq ((exec_dwellTimerStep hs hk).trans (congrArg Host.Outcome.next (if_pos reached))) rfl
  · have ended := (exec_inhibitExpiry hs r).trans (congrArg Host.Outcome.next (if_pos (due_of_some until_ ran)))
    exact ⟨_, answersSettled_of_eq ended rfl, rowState_updRow_same s r _, fun x hx => rowState_updRow_of_ne s _ hx, rfl⟩
  · rw [exec_inhibitExpiry hs, until_, due_of_early fun v hv => Option.some.inj hv ▸ early, if_neg Bool.false_ne_true]
  · exact timerAfter_of_start hk idle fun cr => bare ((credited_iff k).1 cr)
  · have age : peerAge s k.input = report.zoneAge.toNat := by
      unfold peerAge
      rw [index]
      have found : s.peers[(some p.val).getD 0]? = some s.peers[p] := Vector.getElem?_eq_getElem p.isLt
      rw [found]
      exact congrArg (fun r : Option StatusPayload => (r.map fun r => r.zoneAge.toNat).getD 0) reported
    have start := timerAfter_of_credit (s := s) idle ((credited_iff k).2 ⟨pos, kind⟩)
    rw [age] at start
    refine ⟨fun short => ?_, fun long => ?_⟩
    · rw [start, Nat.min_eq_right (Nat.le_of_lt short), if_neg (Nat.ne_of_lt short)]
    · rw [start, Nat.min_eq_left long, if_pos rfl]
  · obtain ⟨mem, number⟩ := mem_of_timerDef hk
    exact timerPasses_peer sound.1 mem peer number _ before before
  · exact timerPasses_undefined (not_mem_of_timerDef undefined) _ before
  · obtain ⟨mem, number⟩ := mem_of_timerDef hk
    have agrees := settled_timersAfter sound before k mem d number
    dsimp only
    refine ⟨fun false_ => ?_, fun true_ => ?_⟩
    · rw [false_] at agrees
      exact agrees.symm
    · rw [true_] at agrees
      have runs : (timersAfter s before)[d].state ≠ .idle := by
        rw [← agrees]
        exact timerAfter_true_state s k _
      refine ⟨runs, fun fed idle => ?_, fun _ running first => timerPasses_running sound mem number _ before running first true_⟩
      exact (timerPasses_idle sound mem fed number _ before (.inl idle)).resolve_left runs
end

section
/-! SUPPORT. The fields that a raising writes, and a STATUS or TRIP taken; settles O26 and O27. -/

namespace Sys2Proof.Machine

variable {c : Instr} {s t u : State}

/-! ### What a raising writes (R126, R127, R131, R143) -/

/-- A raising that starts an episode: a latched row with none raised before. -/
def startsEpisode (s : State) (r : Row) : Bool := latched r && !latchedRaised s

/-- The episode number after a raising. -/
def episodeAfter (s : State) (r : Row) : BitVec 16 := if startsEpisode s r = true then nextEpisode s.causes.episode else s.causes.episode

theorem rowState_raiseRow_same (s : State) (r : Row) :
    rowState (raiseRow s r) r =
      { rowState s r with
        condition := true, raised := true, acked := false, firstOut := startsEpisode s r
        episode := if latched r then episodeAfter s r else 0, onset := some (nodeTime s), logEntry := some s.causes.nextEntry } := by
  unfold raiseRow
  rw [rowState_tripOnRaise, rowState_updRow_same]
  rfl

/-- The entry that a raising writes. -/
def raisedEntry (s : State) (r : Row) : LogEntry :=
  { number := s.causes.nextEntry, episode := if latched r then episodeAfter s r else 0, row := r, onset := nodeTime s
    firstOut := startsEpisode s r, cleared := none }

theorem raiseRow_causes (s : State) (r : Row) :
    (raiseRow s r).causes.episode = episodeAfter s r ∧ (raiseRow s r).causes.nextEntry = s.causes.nextEntry + 1 ∧
      (raiseRow s r).causes.log =
        (s.causes.log ++ [raisedEntry s r]).drop ((s.causes.log ++ [raisedEntry s r]).length - Config.logSize) ∧
      (raiseRow s r).causes.remoteFire = s.causes.remoteFire ∧ (raiseRow s r).causes.remoteThermal = s.causes.remoteThermal := by
  unfold raiseRow
  rw [tripOnRaise_causes]
  exact ⟨rfl, rfl, rfl, rfl, rfl⟩

/-- A raising of a row that sends no TRIP changes the cause table alone. -/
theorem raiseRow_remoteRow (s : State) (k : TripClass) :
    { raiseRow s (remoteRow k) with causes := s.causes } = s := by cases k <;> rfl

theorem remoteOf_of_causes (h : t.causes.remoteFire = s.causes.remoteFire) (k : t.causes.remoteThermal = s.causes.remoteThermal)
    (c : TripClass) : remoteOf t c = remoteOf s c := by
  cases c
  · exact h
  · exact k

theorem remoteOf_setRemote_same (s : State) (c : TripClass) (x : Remote) : remoteOf (setRemote s c x) c = x := by cases c <;> rfl

theorem remoteOf_setRemote_of_ne (s : State) {c d : TripClass} (h : d ≠ c) (x : Remote) : remoteOf (setRemote s c x) d = remoteOf s d := by
  cases c <;> cases d <;> first | rfl | exact absurd rfl h

theorem rowState_setRemote (s : State) (c : TripClass) (x : Remote) (r : Row) : rowState (setRemote s c x) r = rowState s r := by
  cases c <;> rfl

theorem log_setRemote (s : State) (c : TripClass) (x : Remote) : (setRemote s c x).causes.log = s.causes.log ∧
    (setRemote s c x).causes.episode = s.causes.episode ∧ (setRemote s c x).causes.nextEntry = s.causes.nextEntry := by
  cases c <;> exact ⟨rfl, rfl, rfl⟩

theorem remoteRow_injective {c d : TripClass} (h : remoteRow c = remoteRow d) : c = d := by
  cases c <;> cases d <;> first | rfl | cases h

/-! ### A reported trip (R133, R134) -/

theorem reportTrip_of_lowered {cls : TripClass} (h : raised s (remoteRow cls) = false) (x : Sections) (a : Addr) :
    reportTrip s cls x a = setRemote (raiseRow s (remoteRow cls)) cls { sections := x, originators := [a] } := by
  unfold reportTrip
  rw [h]
  rfl

theorem reportTrip_of_raised {cls : TripClass} (h : raised s (remoteRow cls) = true) (x : Sections) (a : Addr) :
    reportTrip s cls x a = setRemote s cls (mergeRemote (remoteOf s cls) x a) := if_pos h

theorem rowState_reportTrip_of_ne {cls : TripClass} {r : Row} (h : r ≠ remoteRow cls) (x : Sections) (a : Addr) :
    rowState (reportTrip s cls x a) r = rowState s r := by
  unfold reportTrip
  split
  · exact rowState_setRemote s cls _ r
  · rw [rowState_setRemote, rowState_raiseRow_of_ne s h]

theorem remoteOf_reportTrip_of_ne {cls d : TripClass} (h : d ≠ cls) (x : Sections) (a : Addr) :
    remoteOf (reportTrip s cls x a) d = remoteOf s d := by
  obtain ⟨-, -, -, fire, thermal⟩ := raiseRow_causes s (remoteRow cls)
  unfold reportTrip
  split
  · exact remoteOf_setRemote_of_ne s h _
  · rw [remoteOf_setRemote_of_ne _ h, remoteOf_of_causes fire thermal]

theorem reportTrip_causes_only (s : State) (cls : TripClass) (x : Sections) (a : Addr) :
    { reportTrip s cls x a with causes := s.causes } = s := by
  unfold reportTrip
  split
  · cases cls <;> rfl
  · cases cls <;> rfl

/-- Who is recorded as originator of a raised row once a sender reports. -/
theorem mergeRemote_originators (r : Remote) (x : Sections) (a : Addr) :
    (a ∈ r.originators ∨ 4 ≤ r.originators.length → (mergeRemote r x a).originators = r.originators) ∧
      (a ∉ r.originators → r.originators.length < 4 → (mergeRemote r x a).originators = r.originators ++ [a]) := by
  refine ⟨fun full => if_pos full, fun new room => if_neg ?_⟩
  rintro (known | full)
  · exact new known
  · exact Nat.not_lt.2 full room

/-! ### The entry of a peer (R166 to R171) -/

theorem matchesLine_eq_false_iff (s : State) (p : StatusPayload) :
    matchesLine s p = false ↔ p.period ≠ s.loader.period ∨ p.mode = .configFault := by
  unfold matchesLine
  rw [decide_eq_false_iff_not, not_and_or, not_not]

theorem earlyFrame_iff (s : State) (e : Peer) :
    earlyFrame s e = true ↔ (e.state ≠ .absent ∧ e.state ≠ .stale) ∧
      ∃ a, e.lastArrival = some a ∧ (arrivalStamp s - a).toNat < Config.period s.loader.period / 4 := by
  unfold earlyFrame
  rw [Bool.and_eq_true, decide_eq_true_iff]
  refine and_congr_right fun _ => ?_
  cases e.lastArrival with
  | none => simp
  | some a =>
    show decide _ = true ↔ _
    rw [decide_eq_true_iff]
    exact ⟨fun h => ⟨a, rfl, h⟩, fun ⟨b, hb, h⟩ => by cases hb; exact h⟩

theorem statusTaken_of_newer {e : Peer} {seq : Byte}
    (h : e.state ≠ .absent ∧ e.state ≠ .stale → ∃ last, e.lastSeq = some last ∧ 1 ≤ (seq - last).toNat ∧ (seq - last).toNat ≤ 127) :
    statusTaken e seq = true := by
  unfold statusTaken
  by_cases out : e.state = .absent ∨ e.state = .stale
  · rw [decide_eq_true out]; rfl
  · obtain ⟨last, known, later⟩ := h (not_or.1 out)
    rw [known]
    exact Bool.or_eq_true_iff.2 (.inr (decide_eq_true later))

theorem statusTaken_of_older {e : Peer} {seq last : Byte} (used : e.state ≠ .absent ∧ e.state ≠ .stale) (known : e.lastSeq = some last)
    (older : seq - last = 0 ∨ 128 ≤ (seq - last).toNat) : statusTaken e seq = false := by
  have not_newer : ¬(1 ≤ (seq - last).toNat ∧ (seq - last).toNat ≤ 127) := by
    rcases older with h | h
    · rw [h]; decide
    · omega
  unfold statusTaken
  rw [decide_eq_false (not_or.2 used), known]
  exact decide_eq_false not_newer

theorem acceptStatus_of_foreign {e : Peer} {p : StatusPayload} (seq : Byte) (h : matchesLine s p = false) :
    (acceptStatus s seq p e).state = .incompatible ∧ (acceptStatus s seq p e).early = 0 ∧ (acceptStatus s seq p e).regular = 0 := by
  unfold acceptStatus
  rw [h]
  exact ⟨rfl, rfl, rfl⟩

theorem acceptStatus_of_early {e : Peer} {p : StatusPayload} (seq : Byte) (h : matchesLine s p = true) (early : earlyFrame s e = true) :
    (acceptStatus s seq p e).early = min 255 (e.early + 1) ∧ (acceptStatus s seq p e).regular = 0 ∧
      (acceptStatus s seq p e).state = peerStateAfter e.state true (min 255 (e.early + 1)) 0 := by
  unfold acceptStatus
  rw [h, early]
  exact ⟨rfl, rfl, rfl⟩

theorem acceptStatus_of_regular {e : Peer} {p : StatusPayload} (seq : Byte) (h : matchesLine s p = true) (early : earlyFrame s e = false) :
    (acceptStatus s seq p e).early = 0 ∧ (acceptStatus s seq p e).regular = min 255 (e.regular + 1) ∧
      (acceptStatus s seq p e).state = peerStateAfter e.state false 0 (min 255 (e.regular + 1)) := by
  unfold acceptStatus
  rw [h, early]
  exact ⟨rfl, rfl, rfl⟩

theorem peerStateAfter_fresh (early : Bool) (n m : Nat) :
    (peerStateAfter .fresh early n m = .suspect ↔ early = true ∧ 2 ≤ n) ∧
      (peerStateAfter .fresh early n m = .suspect ∨ peerStateAfter .fresh early n m = .fresh) := by
  unfold peerStateAfter
  by_cases h : early = true ∧ 2 ≤ n
  · simp [h]
  · simp [h]

theorem peerStateAfter_suspect (early : Bool) (n m : Nat) :
    (peerStateAfter .suspect early n m = .fresh ↔ early = false ∧ 4 ≤ m) ∧
      (peerStateAfter .suspect early n m = .suspect ∨ peerStateAfter .suspect early n m = .fresh) := by
  unfold peerStateAfter
  by_cases h : early = false ∧ 4 ≤ m
  · simp [h]
  · simp [h]

/-- The state of an entry in use after a matching frame, by the counts that the frame leaves. -/
theorem acceptStatus_state {e : Peer} {p : StatusPayload} (seq : Byte) (h : matchesLine s p = true) :
    (acceptStatus s seq p e).state =
      peerStateAfter e.state (earlyFrame s e) (acceptStatus s seq p e).early (acceptStatus s seq p e).regular := by
  unfold acceptStatus
  rw [h]
  rfl

/-! ### Credited timers set back (R164) -/

/-- A credited timer's input reads a FRESH peer's report. -/
theorem literalHolds_of_credited {k : TimerDef} {i : Fin 12} {p : StatusPayload} (cr : credited k = true)
    (index : k.input.index = some i.val) (fresh : s.peers[i].state = .fresh) (report : s.peers[i].reported = some p)
    (ts : Vector Timer 16) :
    literalHolds s ts k.input = true ↔ p.zonePresent = true ∧
      (k.input.kind = some .peerZoneReady ∧ (p.zoneState = .ready ∨ p.zoneState = .running) ∨
        k.input.kind = some .peerZoneRunning ∧ p.zoneState = .running) := by
  obtain ⟨pos, kind⟩ := (credited_iff k).1 cr
  have found : s.peers[(some i.val).getD 0]? = some s.peers[i] := Vector.getElem?_eq_getElem i.isLt
  unfold literalHolds
  rw [index, pos]
  rcases kind with kind | kind
  · rw [kind]
    show peerLiteral s .peerZoneReady _ true = true ↔ _
    unfold peerLiteral
    rw [found]
    dsimp only
    rw [report]
    dsimp only
    rw [fresh]
    simp [peerFact]
  · rw [kind]
    show peerLiteral s .peerZoneRunning _ true = true ↔ _
    unfold peerLiteral
    rw [found]
    dsimp only
    rw [report]
    dsimp only
    rw [fresh]
    simp [peerFact]

theorem timers_setBackTimers (s : State) (i : Fin 12) (age : Nat) (d : Fin 16) :
    (setBackTimers s i age).timers[d] =
      (((timerDef s d.val).map fun k => setBack s i age k s.timers[d]).getD s.timers[d]) := by
  unfold setBackTimers
  rw [Fin.getElem_fin, Vector.getElem_ofFn]
  cases timerDef s d.val <;> rfl

/-- A credited timer that runs ahead of the age its peer reports. -/
def RunsAhead (s : State) (i : Fin 12) (p : StatusPayload) (d : Fin 16) : Prop :=
  ∃ k : TimerDef, timerDef s d.val = some k ∧ k.input.positive = true ∧
    (k.input.kind = some .peerZoneReady ∧ (p.zoneState = .ready ∨ p.zoneState = .running) ∨
      k.input.kind = some .peerZoneRunning ∧ p.zoneState = .running) ∧
    p.zonePresent = true ∧ k.input.index = some i.val ∧ s.timers[d].state ≠ .idle ∧ p.zoneAge.toNat < s.timers[d].elapsed

theorem setBackTimers_of_ahead {i : Fin 12} {p : StatusPayload} {d : Fin 16} (fresh : s.peers[i].state = .fresh)
    (report : s.peers[i].reported = some p) (h : RunsAhead s i p d) :
    (setBackTimers s i p.zoneAge.toNat).timers[d] =
      { state := .timing, elapsed := p.zoneAge.toNat
        stepFrom := if s.timers[d].state = .done then nodeCount s else s.timers[d].stepFrom } := by
  obtain ⟨k, hk, pos, kind, present, index, runs, ahead⟩ := h
  have cr : credited k = true := (credited_iff k).2 ⟨pos, kind.imp And.left And.left⟩
  have holds : literalHolds s s.timers k.input = true :=
    (literalHolds_of_credited cr index fresh report s.timers).2 ⟨present, kind⟩
  rw [timers_setBackTimers, hk]
  show setBack s i _ k _ = _
  unfold setBack
  rw [cr, decide_eq_true index, decide_eq_true runs, holds, decide_eq_true ahead]
  rfl

theorem setBackTimers_of_not_ahead {i : Fin 12} {p : StatusPayload} {d : Fin 16} (fresh : s.peers[i].state = .fresh)
    (report : s.peers[i].reported = some p) (h : ¬RunsAhead s i p d) :
    (setBackTimers s i p.zoneAge.toNat).timers[d] = s.timers[d] := by
  rw [timers_setBackTimers]
  cases hk : timerDef s d.val with
  | none => rfl
  | some k =>
    show setBack s i _ k _ = _
    refine if_neg fun test => h ?_
    simp only [Bool.and_eq_true] at test
    obtain ⟨⟨⟨⟨cr, index⟩, runs⟩, holds⟩, ahead⟩ := test
    have index := of_decide_eq_true index
    obtain ⟨present, kind⟩ := (literalHolds_of_credited cr index fresh report s.timers).1 holds
    exact ⟨k, hk, ((credited_iff k).1 cr).1, kind, present, index, of_decide_eq_true runs, of_decide_eq_true ahead⟩

/-! ### What a FRESH peer reports (R134) -/

/-- Sections of a class reported, if there are any. -/
def reportIf (s : State) (cls : TripClass) (x : Sections) (a : Addr) : State := if x = 0 then s else reportTrip s cls x a

theorem reportedTrips_eq (s : State) (a : Addr) (p : StatusPayload) :
    reportedTrips s a p =
      reportIf (reportIf s .fire (p.fireSections &&& ownSections s) a) .thermal (p.thermalSections &&& ownSections s) a := rfl

theorem rowState_reportIf_of_ne {cls : TripClass} {r : Row} (h : r ≠ remoteRow cls) (x : Sections) (a : Addr) :
    rowState (reportIf s cls x a) r = rowState s r := by
  unfold reportIf
  split
  · rfl
  · exact rowState_reportTrip_of_ne h x a

theorem remoteOf_reportIf_of_ne {cls d : TripClass} (h : d ≠ cls) (x : Sections) (a : Addr) :
    remoteOf (reportIf s cls x a) d = remoteOf s d := by
  unfold reportIf
  split
  · rfl
  · exact remoteOf_reportTrip_of_ne h x a

theorem reportIf_causes_only (s : State) (cls : TripClass) (x : Sections) (a : Addr) :
    { reportIf s cls x a with causes := s.causes } = s := by
  unfold reportIf
  split
  · rfl
  · exact reportTrip_causes_only s cls x a

/-- What a report of sections of a class leaves of its row and of what the row records. -/
structure Reported (cls : TripClass) (x : Sections) (a : Addr) (s u : State) : Prop where
  nothing : x = 0 → rowState u (remoteRow cls) = rowState s (remoteRow cls) ∧ remoteOf u cls = remoteOf s cls
  raises : x ≠ 0 → raised s (remoteRow cls) = false →
    raised u (remoteRow cls) = true ∧ remoteOf u cls = { sections := x, originators := [a] }
  joins : x ≠ 0 → raised s (remoteRow cls) = true →
    rowState u (remoteRow cls) = rowState s (remoteRow cls) ∧ (remoteOf u cls).sections = (remoteOf s cls).sections ||| x ∧
      (a ∈ (remoteOf s cls).originators ∨ 4 ≤ (remoteOf s cls).originators.length →
        (remoteOf u cls).originators = (remoteOf s cls).originators) ∧
      (a ∉ (remoteOf s cls).originators → (remoteOf s cls).originators.length < 4 →
        (remoteOf u cls).originators = (remoteOf s cls).originators ++ [a])

theorem reported_reportIf (s : State) (cls : TripClass) (x : Sections) (a : Addr) : Reported cls x a s (reportIf s cls x a) where
  nothing none_ := by rw [reportIf, if_pos none_]; exact ⟨rfl, rfl⟩
  raises some_ low := by
    rw [reportIf, if_neg some_, reportTrip_of_lowered low, remoteOf_setRemote_same]
    refine ⟨?_, rfl⟩
    unfold raised
    rw [rowState_setRemote]
    exact raised_raiseRow s _
  joins some_ up := by
    rw [reportIf, if_neg some_, reportTrip_of_raised up, remoteOf_setRemote_same, rowState_setRemote]
    exact ⟨rfl, rfl, mergeRemote_originators (remoteOf s cls) x a⟩

/-- A report speaks of its own row and its own record alone. -/
theorem Reported.congr {cls : TripClass} {x : Sections} {a : Addr} {s' u' : State} (h : Reported cls x a s u)
    (hs : rowState s' (remoteRow cls) = rowState s (remoteRow cls)) (ks : remoteOf s' cls = remoteOf s cls)
    (hu : rowState u' (remoteRow cls) = rowState u (remoteRow cls)) (ku : remoteOf u' cls = remoteOf u cls) :
    Reported cls x a s' u' := by
  obtain ⟨nothing, raises, joins⟩ := h
  unfold raised at raises joins
  refine ⟨?_, ?_, ?_⟩
  · rw [hs, ks, hu, ku]; exact nothing
  · unfold raised; rw [hs, hu, ku]; exact raises
  · unfold raised; rw [hs, ks, hu, ku]; exact joins

theorem rowState_of_causes (h : t.causes = s.causes) (r : Row) : rowState t r = rowState s r := by
  unfold rowState
  rw [h]

theorem ownSections_of_loader (h : t.loader = s.loader) : ownSections t = ownSections s := by
  unfold ownSections zoneSection zoneCfg bayConfigured baySection bayCfg cfg
  rw [h]

theorem reported_reportedTrips (s : State) (a : Addr) (p : StatusPayload) :
    Reported .fire (p.fireSections &&& ownSections s) a s (reportedTrips s a p) ∧
      Reported .thermal (p.thermalSections &&& ownSections s) a s (reportedTrips s a p) := by
  rw [reportedTrips_eq]
  have rows : remoteRow .fire ≠ remoteRow .thermal := by decide
  have first := reported_reportIf s .fire (p.fireSections &&& ownSections s) a
  have row (x : Sections) : rowState (reportIf s .fire x a) (remoteRow .thermal) = rowState s (remoteRow .thermal) :=
    rowState_reportIf_of_ne rows.symm x a
  have record (x : Sections) : remoteOf (reportIf s .fire x a) .thermal = remoteOf s .thermal := remoteOf_reportIf_of_ne (by decide) x a
  have row1 := row (p.fireSections &&& ownSections s)
  have record1 := record (p.fireSections &&& ownSections s)
  generalize reportIf s .fire (p.fireSections &&& ownSections s) a = v at first row1 record1 ⊢
  generalize p.thermalSections &&& ownSections s = x
  exact ⟨first.congr rfl rfl (rowState_reportIf_of_ne rows x a) (remoteOf_reportIf_of_ne (by decide) x a),
    (reported_reportIf v .thermal x a).congr row1.symm record1.symm rfl rfl⟩

theorem rowState_reportedTrips_of_ne {r : Row} (fd5 : r ≠ .fd5) (th3 : r ≠ .th3) (a : Addr) (p : StatusPayload) :
    rowState (reportedTrips s a p) r = rowState s r := by
  rw [reportedTrips_eq, rowState_reportIf_of_ne (cls := .thermal) th3, rowState_reportIf_of_ne (cls := .fire) fd5]

theorem reportedTrips_causes_only (s : State) (a : Addr) (p : StatusPayload) : { reportedTrips s a p with causes := s.causes } = s := by
  rw [reportedTrips_eq]
  have first := reportIf_causes_only s .fire (p.fireSections &&& ownSections s) a
  generalize reportIf s .fire (p.fireSections &&& ownSections s) a = v at first ⊢
  have second := reportIf_causes_only v .thermal (p.thermalSections &&& ownSections s) a
  have e := congrArg (fun w : State => ({ w with causes := s.causes } : State)) second
  exact e.trans first

/-- Two states that differ in the cause table alone. -/
theorem causes_only {w v : State} (h : { w with causes := v.causes } = v) : w.peers = v.peers ∧ w.timers = v.timers ∧
    ∀ (p : Vector Peer 12) (k : Causes) (ts : Vector Timer 16),
      { w with peers := p, causes := k, timers := ts } = { v with peers := p, causes := k, timers := ts } := by
  have peers := congrArg State.peers h
  have timers := congrArg State.timers h
  refine ⟨peers, timers, fun p k ts => ?_⟩
  have e := congrArg (fun w : State => ({ w with peers := p, causes := k, timers := ts } : State)) h
  exact e

/-! ### A STATUS taken -/

theorem updPeer_rest (s : State) (i : Fin 12) (f : Peer → Peer) : (updPeer s i f).causes = s.causes ∧ (updPeer s i f).loader = s.loader ∧
    ∀ (p : Vector Peer 12) (k : Causes) (ts : Vector Timer 16),
      { updPeer s i f with peers := p, causes := k, timers := ts } = { s with peers := p, causes := k, timers := ts } :=
  ⟨rfl, rfl, fun _ _ _ => rfl⟩

theorem setBackTimers_rest (s : State) (i : Fin 12) (age : Nat) : (setBackTimers s i age).causes = s.causes ∧
    (setBackTimers s i age).loader = s.loader ∧ (setBackTimers s i age).peers = s.peers ∧
    ∀ (p : Vector Peer 12) (k : Causes) (ts : Vector Timer 16),
      { setBackTimers s i age with peers := p, causes := k, timers := ts } = { s with peers := p, causes := k, timers := ts } := by
  have timers : ∃ v : Vector Timer 16, setBackTimers s i age = { s with timers := v } := ⟨_, by unfold setBackTimers; rfl⟩
  obtain ⟨v, e⟩ := timers
  rw [e]
  exact ⟨rfl, rfl, rfl, fun _ _ _ => rfl⟩

/-- The entry of a watched peer after an accepted frame. -/
def statusEntered (s : State) (i : Fin 12) (h : Header) (p : StatusPayload) : State := updPeer s i (acceptStatus s h.seq p)

theorem peer_statusEntered (s : State) (i : Fin 12) (h : Header) (p : StatusPayload) :
    (statusEntered s i h p).peers[i] = acceptStatus s h.seq p s.peers[i] := by
  simp [statusEntered, updPeer]

theorem peer_statusEntered_of_ne {i j : Fin 12} (h : j ≠ i) (hd : Header) (p : StatusPayload) :
    (statusEntered s i hd p).peers[j] = s.peers[j] := by
  have away : i.val ≠ j.val := fun e => h (Fin.ext e.symm)
  simp [statusEntered, updPeer, away]

/-- What an accepted frame makes of the node before the reactions. -/
def statusLeaves (s : State) (i : Fin 12) (h : Header) (p : StatusPayload) : State :=
  if (acceptStatus s h.seq p s.peers[i]).state = .fresh then
    reportedTrips (setBackTimers (statusEntered s i h p) i p.zoneAge.toNat) h.sender p
  else statusEntered s i h p

theorem takeStatus_of_taken {i : Fin 12} {h : Header} {p : StatusPayload} (taken : statusTaken s.peers[i] h.seq = true) :
    takeStatus s i h p = settle (statusLeaves s i h p) := by
  unfold takeStatus statusLeaves
  rw [if_pos taken]
  change (if (statusEntered s i h p).peers[i].state = .fresh then
    settle (reportedTrips (setBackTimers (statusEntered s i h p) i p.zoneAge.toNat) h.sender p) else settle (statusEntered s i h p)) = _
  rw [peer_statusEntered]
  split <;> rfl

theorem takeStatus_of_not_taken {i : Fin 12} {h : Header} {p : StatusPayload} (old : statusTaken s.peers[i] h.seq = false) :
    takeStatus s i h p = s := if_neg (by rw [old]; decide)

theorem exec_status {h : Header} {p : StatusPayload} {i : Fin 12} (heard : heardBroadcast s h = true)
    (watched : watchIndex s h.sender = some i) : exec (.status h p) s = .next (takeStatus s i h p) := by
  simp only [exec, execStatus]
  rw [if_pos heard, watched]

/-- Peers, rows and dwell timers apart, an accepted frame leaves everything. -/
theorem statusLeaves_rest (s : State) (i : Fin 12) (h : Header) (p : StatusPayload) :
    { statusLeaves s i h p with peers := s.peers, causes := s.causes, timers := s.timers } = s ∧
      (statusLeaves s i h p).peers = (statusEntered s i h p).peers := by
  obtain ⟨-, -, entered⟩ := updPeer_rest s i (acceptStatus s h.seq p)
  unfold statusLeaves
  split
  · obtain ⟨-, -, kept, timed⟩ := setBackTimers_rest (statusEntered s i h p) i p.zoneAge.toNat
    obtain ⟨peers, -, rest⟩ :=
      causes_only (reportedTrips_causes_only (setBackTimers (statusEntered s i h p) i p.zoneAge.toNat) h.sender p)
    exact ⟨(rest _ _ _).trans ((timed _ _ _).trans (entered _ _ _)), peers.trans kept⟩
  · exact ⟨entered _ _ _, rfl⟩

/-- The rows and the image are as before when a FRESH peer's trips are reported. -/
theorem setBackTimers_statusEntered (s : State) (i : Fin 12) (h : Header) (p : StatusPayload) :
    (setBackTimers (statusEntered s i h p) i p.zoneAge.toNat).causes = s.causes ∧
      (setBackTimers (statusEntered s i h p) i p.zoneAge.toNat).loader = s.loader := by
  obtain ⟨causes, loader, -⟩ := updPeer_rest s i (acceptStatus s h.seq p)
  obtain ⟨causes', loader', -⟩ := setBackTimers_rest (statusEntered s i h p) i p.zoneAge.toNat
  exact ⟨causes'.trans causes, loader'.trans loader⟩

/-! ### A TRIP taken -/

theorem rowState_tripCondition_same (s : State) (r : Row) :
    rowState (tripCondition s r) r = { rowState s r with acked := (rowState s r).acked && (rowState s r).condition } :=
  rowState_updRow_same s r _

theorem rowState_tripCondition_of_ne {r q : Row} (h : q ≠ r) : rowState (tripCondition s r) q = rowState s q :=
  rowState_updRow_of_ne s _ h

theorem raised_tripCondition (s : State) (r q : Row) : raised (tripCondition s r) q = raised s q := by
  unfold raised
  by_cases h : q = r
  · subst h; rw [rowState_tripCondition_same]
  · rw [rowState_tripCondition_of_ne h]

theorem startsEpisode_tripCondition (s : State) (r q : Row) : startsEpisode (tripCondition s r) q = startsEpisode s q := by
  unfold startsEpisode latchedRaised
  simp only [raised_tripCondition]

/-- A raising overwrites all that the condition of a TRIP has written. -/
theorem raiseRow_tripCondition (s : State) (r : Row) :
    rowState (raiseRow (tripCondition s r) r) r = rowState (raiseRow s r) r ∧
      (raiseRow (tripCondition s r) r).causes.log = (raiseRow s r).causes.log ∧
      (raiseRow (tripCondition s r) r).causes.episode = (raiseRow s r).causes.episode := by
  have episode : episodeAfter (tripCondition s r) r = episodeAfter s r := by
    unfold episodeAfter
    rw [startsEpisode_tripCondition]
    rfl
  have entry : raisedEntry (tripCondition s r) r = raisedEntry s r := by
    unfold raisedEntry
    rw [episode, startsEpisode_tripCondition]
    rfl
  obtain ⟨ep, -, log, -, -⟩ := raiseRow_causes (tripCondition s r) r
  obtain ⟨ep', -, log', -, -⟩ := raiseRow_causes s r
  refine ⟨?_, ?_, ?_⟩
  · rw [rowState_raiseRow_same, rowState_raiseRow_same, rowState_tripCondition_same, episode, startsEpisode_tripCondition]
    rfl
  · rw [log, log', entry]
    rfl
  · rw [ep, ep', episode]

theorem exec_trip {h : Header} {cls : TripClass} {x : Sections} (heard : heardBroadcast s h = true) :
    exec (.trip h cls x) s = .next (takeTrip s h.sender cls x) := congrArg Host.Outcome.next (if_pos heard)

end Sys2Proof.Machine

open Sys2Proof Sys2Proof.Machine

/-- Settles O26: the frame is judged by `acceptStatus`; a FRESH entry sets timers back and reports its trips. -/
theorem statusIsJudged : Obligations.StatusIsJudged := by
  unfold Obligations.StatusIsJudged
  intro h p i s heard watched e stamp inUse
  have outcome := exec_status (p := p) heard watched
  refine ⟨fun last used known older => ?_, fun newer => ?_⟩
  · rw [outcome, takeStatus_of_not_taken (statusTaken_of_older used known older)]
  · rw [takeStatus_of_taken (statusTaken_of_newer newer)] at outcome
    obtain ⟨rest, peers⟩ := statusLeaves_rest s i h p
    have entry : (statusLeaves s i h p).peers[i] = acceptStatus s h.seq p e := by rw [peers]; exact peer_statusEntered s i h p
    refine ⟨statusLeaves s i h p, answersSettled_of_eq outcome rfl, fun j away => ?_, ?_⟩
    · rw [peers]; exact peer_statusEntered_of_ne away h p
    · rw [entry]
      refine ⟨rfl, rfl, rfl, rfl, ?_, fun stays => ?_, fun fresh => ?_, rest⟩
      · intro foreign early
        have early_iff : earlyFrame s e = true ↔ early := earlyFrame_iff s e
        have matching (own : ¬foreign) : matchesLine s p = true := by
          rw [← Bool.not_eq_false, matchesLine_eq_false_iff]
          exact own
        refine ⟨fun away => acceptStatus_of_foreign h.seq ((matchesLine_eq_false_iff s p).2 away), fun own soon => ?_,
          fun own late => ?_, fun own out => ?_, fun own was => ?_, fun own was => ?_⟩
        · obtain ⟨count, regular, -⟩ := acceptStatus_of_early (e := e) h.seq (matching own) (early_iff.2 soon)
          exact ⟨count, regular⟩
        · obtain ⟨count, regular, -⟩ :=
            acceptStatus_of_regular (e := e) h.seq (matching own) (Bool.eq_false_of_not_eq_true fun k => late (early_iff.1 k))
          exact ⟨count, regular⟩
        · rw [acceptStatus_state h.seq (matching own)]
          rcases out with k | k | k <;> rw [k] <;> rfl
        · rw [acceptStatus_state h.seq (matching own), was, ← early_iff]
          exact peerStateAfter_fresh _ _ _
        · rw [acceptStatus_state h.seq (matching own), was, ← early_iff, Bool.not_eq_true]
          exact peerStateAfter_suspect _ _ _
      · rw [show statusLeaves s i h p = statusEntered s i h p from if_neg stays]
        exact ⟨rfl, rfl⟩
      · rw [show statusLeaves s i h p = reportedTrips (setBackTimers (statusEntered s i h p) i p.zoneAge.toNat) h.sender p from if_pos fresh]
        obtain ⟨fire, thermal⟩ := reported_reportedTrips (setBackTimers (statusEntered s i h p) i p.zoneAge.toNat) h.sender p
        obtain ⟨-, timers, -⟩ :=
          causes_only (reportedTrips_causes_only (setBackTimers (statusEntered s i h p) i p.zoneAge.toNat) h.sender p)
        obtain ⟨causes, loader⟩ := setBackTimers_statusEntered s i h p
        have fresh' : (statusEntered s i h p).peers[i].state = .fresh := by rw [peer_statusEntered]; exact fresh
        have report : (statusEntered s i h p).peers[i].reported = some p := by rw [peer_statusEntered]; rfl
        refine ⟨?_, fun r fd5 th3 => (rowState_reportedTrips_of_ne fd5 th3 h.sender p).trans (rowState_of_causes causes r), fun d => ?_⟩
        · rw [ownSections_of_loader loader] at fire thermal
          have records (cls : TripClass) := remoteOf_of_causes (congrArg Causes.remoteFire causes) (congrArg Causes.remoteThermal causes) cls
          have fire := fire.congr (rowState_of_causes causes.symm _) (records _).symm rfl rfl
          have thermal := thermal.congr (rowState_of_causes causes.symm _) (records _).symm rfl rfl
          rintro cls x (⟨rfl, rfl⟩ | ⟨rfl, rfl⟩)
          · exact ⟨fire.nothing, fire.raises, fire.joins⟩
          · exact ⟨thermal.nothing, thermal.raises, thermal.joins⟩
        · intro ahead
          have ahead_is : RunsAhead (statusEntered s i h p) i p d = ahead := rfl
          rw [timers]
          refine ⟨fun yes done => ?_, fun yes timing => ?_, fun no => ?_⟩
          · rw [setBackTimers_of_ahead fresh' report (ahead_is.symm ▸ yes)]
            exact congrArg (fun n => ({ state := .timing, elapsed := p.zoneAge.toNat, stepFrom := n } : Timer)) (if_pos done)
          · rw [setBackTimers_of_ahead fresh' report (ahead_is.symm ▸ yes)]
            have running : ¬(statusEntered s i h p).timers[d].state = .done := by
              show ¬s.timers[d].state = .done
              rw [timing]
              decide
            rw [if_neg running]
            show ({ state := .timing, elapsed := _, stepFrom := s.timers[d].stepFrom } : Timer) =
              { state := s.timers[d].state, elapsed := _, stepFrom := s.timers[d].stepFrom }
            rw [timing]
          · exact setBackTimers_of_not_ahead fresh' report (ahead_is.symm ▸ no)

/-- Settles O27: the condition of the TRIP, then the report of its sections. -/
theorem tripRaisesRemoteRow : Obligations.TripRaisesRemoteRow := by
  unfold Obligations.TripRaisesRemoteRow
  intro h cls x s heard
  have outcome := exec_trip (cls := cls) (x := x) heard
  refine ⟨fun nothing => ?_, fun something => ?_⟩
  · rw [outcome, takeTrip, if_pos nothing]
  · rw [takeTrip, if_neg something] at outcome
    have only := reportTrip_causes_only (tripCondition s (remoteRow cls)) cls x h.sender
    have reported : Reported cls x h.sender (tripCondition s (remoteRow cls)) (reportTrip (tripCondition s (remoteRow cls)) cls x h.sender) := by
      have own := reported_reportIf (tripCondition s (remoteRow cls)) cls x h.sender
      rwa [reportIf, if_neg something] at own
    have records : remoteOf (tripCondition s (remoteRow cls)) cls = remoteOf s cls := by cases cls <;> rfl
    refine ⟨_, answersSettled_of_eq outcome rfl, ?_, fun other away => ?_, fun low => ?_, fun up => ?_, fun r away => ?_, ?_⟩
    · cases row : raised s (remoteRow cls) with
      | false => exact (reported.raises something ((raised_tripCondition s _ _).trans row)).1
      | true =>
        have kept := (reported.joins something ((raised_tripCondition s _ _).trans row)).1
        unfold raised at row ⊢
        rw [kept, rowState_tripCondition_same]
        exact row
    · rw [remoteOf_reportTrip_of_ne away]
      cases other <;> rfl
    · have low' : raised (tripCondition s (remoteRow cls)) (remoteRow cls) = false := (raised_tripCondition s _ _).trans low
      obtain ⟨row, log, episode⟩ := raiseRow_tripCondition s (remoteRow cls)
      obtain ⟨-, next, -, -, -⟩ := raiseRow_causes (tripCondition s (remoteRow cls)) (remoteRow cls)
      rw [reportTrip_of_lowered low', remoteOf_setRemote_same, rowState_setRemote, row]
      obtain ⟨logs, episodes, nexts⟩ := log_setRemote (raiseRow (tripCondition s (remoteRow cls)) (remoteRow cls)) cls
        { sections := x, originators := [h.sender] }
      exact ⟨rfl, rfl, logs.trans log, episodes.trans episode, nexts.trans next⟩
    · have up' : raised (tripCondition s (remoteRow cls)) (remoteRow cls) = true := (raised_tripCondition s _ _).trans up
      rw [reportTrip_of_raised up', remoteOf_setRemote_same, rowState_setRemote, rowState_tripCondition_same, records]
      obtain ⟨logs, episodes, nexts⟩ := log_setRemote (tripCondition s (remoteRow cls)) cls (mergeRemote (remoteOf s cls) x h.sender)
      refine ⟨fun ended => ?_, fun holds => ?_, logs, episodes, nexts, rfl, mergeRemote_originators (remoteOf s cls) x h.sender⟩
      · rw [ended, Bool.and_false]
      · rw [holds, Bool.and_true]
    · rw [rowState_reportTrip_of_ne away, rowState_tripCondition_of_ne away]
    · have rest := congrArg (fun w : State => ({ w with causes := s.causes } : State)) only
      exact rest
end

section
/-! SUPPORT. The deadlines of peers and of the STATUS, and how an attempt ends; settles O28, O30 and O31. -/

namespace Sys2Proof.Machine

variable {s t : State}

/-! ### Deadlines -/

theorem peerInUse_iff (e : Peer) : peerInUse e = true ↔ e.state = .fresh ∨ e.state = .suspect ∨ e.state = .incompatible :=
  decide_eq_true_iff

/-- A STATUS falls due `P` after the last one, on a node that sends them. -/
theorem exec_statusDue {u : Nat} (at_ : s.bus.statusDueAt = some u) (pending : s.bus.statusPending = false) (passed : u ≤ s.now)
    (sends : sendsStatus s = true) : exec .statusDue s = .next (statusFallsDue s u) := by
  simp only [exec, execStatusDue, at_, sends, pending, decide_eq_true passed]
  rfl

theorem statusFallsDue_eq (s : State) (u : Nat) {w : Option Nat} (watch : (if inService s then some (u + 2 * periodOfNode s) else none) = w) :
    statusFallsDue s u = { s with bus := { s.bus with statusPending := true, statusDueAt := none, watchUntil := w } } := by
  subst watch
  rfl

theorem inService_of_configFault (h : s.loader.mode = .configFault) : inService s = false := by
  unfold inService
  rw [h]
  decide

/-! ### A frame leaves -/

/-- In service the leaving of a frame ends with what it sets off. -/
theorem answersSettled_frameLeaves {a : Attempt} (hs : inService s = true) (running : s.bus.attempt = some a) {u : State}
    (left : frameLeft s a = u) : AnswersSettled (exec .frameLeaves s) u := by
  have outcome : exec .frameLeaves s = .next (settle (frameLeft s a)) := by
    simp only [exec, execFrameLeaves, running]
    exact congrArg Host.Outcome.next (if_pos hs)
  exact answersSettled_of_eq outcome left

theorem exec_frameLeaves_of_configFault {a : Attempt} (fault : s.loader.mode = .configFault) (running : s.bus.attempt = some a) :
    exec .frameLeaves s = .next (frameLeft s a) := by
  simp only [exec, execFrameLeaves, running]
  refine congrArg Host.Outcome.next (if_neg ?_)
  rw [inService_of_configFault fault]
  decide

/-- The node once an attempt has ended, before its source takes the leaving. -/
def attemptEnded (s : State) : State := updBus s fun u => { u with attempt := none, sequence := u.sequence + 1 }

theorem frameLeft_eq (s : State) (a : Attempt) : frameLeft s a = sourceLeaves (attemptEnded s) a := rfl

theorem sourceLeaves_fire {a : Attempt} {carried : Sections} (h : a.frame = .trip .fire carried) :
    sourceLeaves s a = updBus s fun u => { u with tripFire := tripRemains u.tripFire carried } := by rw [sourceLeaves, h]

theorem sourceLeaves_thermal {a : Attempt} {carried : Sections} (h : a.frame = .trip .thermal carried) :
    sourceLeaves s a = updBus s fun u => { u with tripThermal := tripRemains u.tripThermal carried } := by rw [sourceLeaves, h]

theorem sourceLeaves_status {a : Attempt} {p : StatusPayload} (h : a.frame = .status p) :
    sourceLeaves s a = updBus s fun u =>
      { u with statusPending := false, statusDueAt := some (s.now + periodOfNode s), watchUntil := none, blocked := false } := by
  rw [sourceLeaves, h]

theorem sourceLeaves_reply {a : Attempt} {r : Reply} (h : a.frame = .reply r) :
    sourceLeaves s a = updBus s fun u => { u with replies := u.replies.drop 1 } := by rw [sourceLeaves, h]

theorem sourceLeaves_handover {a : Attempt} {f : HandoverFrame} (h : a.frame = .handover f) :
    sourceLeaves s a = if a.held then handoverLeaves s f else s := by rw [sourceLeaves, h]

/-- A handover frame other than an OFFER leaves its FIFO alone. -/
theorem handoverLeaves_of_not_offer {f : HandoverFrame} (h : ∀ o, f.body ≠ .offer o) :
    handoverLeaves s f = updBus s fun u => { u with handover := u.handover.drop 1 } := by
  unfold handoverLeaves
  cases body : f.body with
  | offer o => exact absurd body (h o)
  | accept id => rfl
  | decline id r => rfl
  | withdraw id => rfl
  | landed id => rfl

/-- The OFFER of a QUEUED entry has left: the entry is OUT with its answer window. -/
theorem offerLeaves_of_queued {o : OfferPayload} {b : BayIdx} {id : PackId} {dst : Addr} {d : Nat} (origin : o.originBay.toNat = b.val)
    (entry : s.handover[b].entry = .queued id dst d) :
    offerLeaves s o = { s with
      handover := s.handover.set b { s.handover[b] with entry := .out id dst d (s.now + 4 * periodOfNode s) } } := by
  have bound : o.originBay.toNat < 4 := by rw [origin]; exact b.isLt
  have bay : (⟨o.originBay.toNat, bound⟩ : BayIdx) = b := Fin.ext origin
  unfold offerLeaves
  rw [dif_pos bound, bay]
  simp only [updHandover, entry]

end Sys2Proof.Machine

open Sys2Proof Sys2Proof.Machine

/-- Settles O28: each command in service on a deadline that has run. -/
theorem peerAndStatusDeadlines : Obligations.PeerAndStatusDeadlines := by
  unfold Obligations.PeerAndStatusDeadlines
  intro u s passed
  refine ⟨fun p hs at_ inUse => ?_, fun hs at_ => ?_, fun at_ pending => ⟨fun hs => ?_, fun fault => ?_⟩, fun hs pending at_ => ?_⟩
  · refine answersSettled_of_eq ((whenServing_of_inService hs _).trans (congrArg Host.Outcome.next (if_pos ?_))) rfl
    rw [(peerInUse_iff _).2 inUse, due_of_some at_ passed]
    decide
  · exact answersSettled_of_eq ((whenServing_of_inService hs _).trans (congrArg Host.Outcome.next (if_pos (due_of_some at_ passed)))) rfl
  · have sends : sendsStatus s = true := by unfold sendsStatus; rw [hs, Bool.true_or]
    rw [exec_statusDue at_ pending passed sends, statusFallsDue_eq s u (if_pos hs)]
    rfl
  · have sends : sendsStatus s = true := by unfold sendsStatus; rw [decide_eq_true fault, Bool.or_true]
    have out : ¬inService s = true := by rw [inService_of_configFault fault]; decide
    rw [exec_statusDue at_ pending passed sends, statusFallsDue_eq s u (if_neg out)]
  · refine answersSettled_of_eq ((whenServing_of_inService hs _).trans (congrArg Host.Outcome.next (if_pos ?_))) rfl
    rw [pending, due_of_some at_ passed]
    decide

/-- Settles O30: the attempt ends, then its source takes the leaving, one source after another. -/
theorem attemptsEnd : Obligations.AttemptsEnd := by
  unfold Obligations.AttemptsEnd
  refine ⟨fun a s running => ?_, fun u s until_ => ⟨fun passed => ?_, fun early => ?_⟩, fun a s hs running => ?_,
    fun a p s fault running frame => ?_⟩
  · refine ⟨(Config.backoffDraw s.freeIndex).val + 1, by omega, by omega, ?_⟩
    simp only [exec, execCollision, running, Config.slotTime, Nat.one_mul]
    rfl
  · exact congrArg Host.Outcome.next (if_pos (due_of_some until_ passed))
  · refine congrArg Host.Outcome.next (if_neg ?_)
    rw [due_of_early fun v hv => by rw [until_] at hv; obtain rfl := Option.some.inj hv; exact early]
    decide
  · intro sent
    refine ⟨fun carried pending frame trip => ?_, fun carried pending frame trip => ?_, fun p frame => ?_,
      fun d o b id dst t frame held origin entry => ?_, fun f frame held other => ?_, fun f frame gone => ?_, fun r frame => ?_⟩
      <;> refine answersSettled_frameLeaves hs running ((frameLeft_eq s a).trans ?_)
    · rw [sourceLeaves_fire frame]
      simp only [attemptEnded, updBus, trip, tripRemains]
      rfl
    · rw [sourceLeaves_thermal frame]
      simp only [attemptEnded, updBus, trip, tripRemains]
      rfl
    · rw [sourceLeaves_status frame]
      rfl
    · rw [sourceLeaves_handover frame, if_pos held]
      exact offerLeaves_of_queued (s := { s with bus := { sent with handover := s.bus.handover.drop 1 } }) origin entry
    · rw [sourceLeaves_handover frame, if_pos held, handoverLeaves_of_not_offer other]
      rfl
    · rw [sourceLeaves_handover frame, if_neg (by rw [gone]; decide)]
      rfl
    · rw [sourceLeaves_reply frame]
      rfl
  · rw [exec_frameLeaves_of_configFault fault running, frameLeft_eq, sourceLeaves_status frame]
    rfl

/-- Settles O31: the three commands answer the state itself, and a bad length or check value is judged before the kind. -/
theorem discardedFramesChangeNothing : Obligations.DiscardedFramesChangeNothing := by
  unfold Obligations.DiscardedFramesChangeNothing
  refine ⟨fun _ _ => rfl, fun _ _ _ => rfl, fun h p s unwatched => ?_, fun raw bad => ?_⟩
  · simp only [exec, execStatus, unwatched, ite_self]
  · refine if_neg fun good => ?_
    rcases bad with length | check
    · exact length good.1
    · exact check good.2
end

section
/-! SUPPORT. The source of an attempt, the items of a STATUS, the leading cause and the lengths of payloads; settles O29. -/

namespace Sys2Proof.Machine

variable {s t : State}

/-! ### The source of an attempt -/

theorem exec_attempt_of_some {f : TxFrame} (idle : s.bus.attempt = none) (free : s.bus.backoffUntil = none) (chosen : chooseFrame s = some f) :
    exec .transmitAttempt s = .next { s with bus := { s.bus with attempt := some { frame := f, seq := s.bus.sequence, held := true } } } := by
  simp only [exec, execTransmitAttempt, chosen]
  rw [idle, free]
  simp only [updBus]
  rw [free]

theorem exec_attempt_of_none (chosen : chooseFrame s = none) : exec .transmitAttempt s = .next s := by
  simp only [exec, execTransmitAttempt, chosen]
  cases s.bus.attempt <;> cases s.bus.backoffUntil <;> rfl

theorem exec_attempt_of_busy (busy : s.bus.attempt ≠ none ∨ s.bus.backoffUntil ≠ none) : exec .transmitAttempt s = .next s := by
  simp only [exec, execTransmitAttempt]
  rcases busy with running | backoff
  · obtain ⟨a, ha⟩ := Option.ne_none_iff_exists'.1 running
    rw [ha]
  · obtain ⟨u, hu⟩ := Option.ne_none_iff_exists'.1 backoff
    rw [hu]
    cases s.bus.attempt <;> rfl

/-- In service the sources stand in the order of R185. -/
theorem chooseFrame_of_inService (hs : inService s = true) : chooseFrame s =
    (s.bus.tripFire.map (TxFrame.trip .fire)).or ((s.bus.tripThermal.map (TxFrame.trip .thermal)).or
      ((if s.bus.statusPending then some (TxFrame.status (serviceStatus s)) else none).or
        ((s.bus.handover.head?.map TxFrame.handover).or (s.bus.replies.head?.map TxFrame.reply)))) := by
  have serving : buildStatus s = serviceStatus s := by
    refine if_neg fun fault => ?_
    rw [inService_of_configFault fault] at hs
    exact Bool.false_ne_true hs
  unfold chooseFrame
  rw [if_pos hs, serving]

/-! ### Bits gathered from a list -/

theorem getLsbD_gathered {α : Type} {w : Nat} (q : α → Bool) (f : α → BitVec w) (k : Nat) (l : List α) (acc : BitVec w) :
    (l.foldl (fun x a => if q a then x ||| f a else x) acc).getLsbD k = (acc.getLsbD k || l.any fun a => q a && (f a).getLsbD k) := by
  induction l generalizing acc with
  | nil => simp
  | cons a rest ih =>
    rw [List.foldl_cons, ih, List.any_cons]
    cases q a <;> simp [Bool.or_assoc]

/-- The number of the bit of a class in a STATUS. -/
def classPlace : CauseClass → Nat
  | .fire => 0 | .atmosphere => 1 | .thermal => 2 | .electrical => 3 | .line => 4 | .account => 5

theorem getLsbD_classBit (c d : CauseClass) : (classBit d).getLsbD (classPlace c) = decide (d = c) := by
  cases c <;> cases d <;> rfl

theorem and_classBit_ne_zero_iff (x : BitVec 6) (c : CauseClass) : x &&& classBit c ≠ 0 ↔ x.getLsbD (classPlace c) = true := by
  have all : ∀ y : BitVec 6, ∀ k : Fin 6, y &&& BitVec.twoPow 6 k.val ≠ 0 ↔ y.getLsbD k.val = true := by decide
  cases c
  · exact all x 0
  · exact all x 1
  · exact all x 2
  · exact all x 3
  · exact all x 4
  · exact all x 5

/-- R137: a class is reported exactly while one of its rows is raised. -/
theorem raisedClasses_iff (s : State) (c : CauseClass) : raisedClasses s &&& classBit c ≠ 0 ↔ ∃ r, rowClass r = c ∧ raised s r = true := by
  rw [and_classBit_ne_zero_iff]
  unfold raisedClasses
  rw [getLsbD_gathered (raised s) (fun r => classBit (rowClass r))]
  simp only [getLsbD_classBit]
  simp [mem_allRows, and_comm]

theorem thermalSections_iff (s : State) {k : Nat} :
    (thermalSections s).getLsbD k = true ↔ ∃ b : BayIdx, raised s (.th2 b) = true ∧ (baySection s b).getLsbD k = true := by
  unfold thermalSections
  rw [getLsbD_gathered (fun b => raised s (.th2 b)) (fun b => baySection s b)]
  have every (b : BayIdx) : b ∈ allBays := by revert b; decide
  simp [every]

theorem fireSections_of_raised (h : raised s .fd1 = true ∨ raised s .fd2 = true ∨ raised s .fd3 = true ∨ raised s .fd4 = true) :
    fireSections s = zoneSection s := by
  refine if_pos ?_
  simpa [or_assoc] using h

theorem fireSections_of_lowered (h1 : raised s .fd1 = false) (h2 : raised s .fd2 = false) (h3 : raised s .fd3 = false)
    (h4 : raised s .fd4 = false) : fireSections s = 0 := by
  unfold fireSections
  rw [h1, h2, h3, h4]
  rfl

/-! ### The items of a STATUS -/

theorem serviceStatus_bay (s : State) (b : BayIdx) :
    (serviceStatus s).bays[b] = if bayConfigured s b = true then s.bays[b].state else .empty := by
  match b with
  | 0 => rfl
  | 1 => rfl
  | 2 => rfl
  | 3 => rfl

theorem serviceStatus_of_no_zone (h : hasZone s = false) : (serviceStatus s).zonePresent = false ∧ (serviceStatus s).zoneState = .air ∧
    (serviceStatus s).zoneAge = 0 ∧ (serviceStatus s).freeSlots = 0 ∧ (serviceStatus s).accepting = false ∧
    (serviceStatus s).lockout = false := by
  simp [serviceStatus, h, freeSlots, accepting, zoneReadyOrRunning]

theorem freeSlots_val (h : hasZone s = true) : (Fin.ofNat 5 (freeSlots s)).val = 4 - (s.zone.queue.length + claimCount s) := by
  unfold freeSlots placesTaken
  rw [if_pos h]
  exact Nat.mod_eq_of_lt (Nat.lt_succ_of_le (Nat.sub_le _ _))

theorem zoneAge_toNat (s : State) : (BitVec.ofNat 16 (zoneAge s)).toNat = min 65535 ((s.now / 20 - s.zone.since) / 10) :=
  (BitVec.toNat_ofNat _ _).trans (Nat.mod_eq_of_lt (Nat.lt_succ_of_le (Nat.min_le_left _ _)))

theorem accepting_iff (h : hasZone s = true) :
    accepting s = true ↔ (s.zone.state = .ready ∨ s.zone.state = .running) ∧ reacts s .ac3 = false := by
  simp [accepting, zoneReadyOrRunning, h]

theorem serviceStatus_of_zone (h : hasZone s = true) :
    (serviceStatus s).zonePresent = true ∧ (serviceStatus s).zoneState = s.zone.state ∧
      (serviceStatus s).zoneAge.toNat = min 65535 ((s.now / 20 - s.zone.since) / 10) ∧
      (serviceStatus s).freeSlots.val = 4 - (s.zone.queue.length + claimCount s) ∧
      ((serviceStatus s).accepting = true ↔ (s.zone.state = .ready ∨ s.zone.state = .running) ∧ reacts s .ac3 = false) ∧
      ((serviceStatus s).lockout = true ↔ s.zone.state = .lockout) := by
  refine ⟨h, if_pos h, ?_, freeSlots_val h, accepting_iff h, ?_⟩
  · exact (congrArg BitVec.toNat (if_pos h)).trans (zoneAge_toNat s)
  · simp [serviceStatus, h]

theorem leading_val (s : State) : (serviceStatus s).leading.val = ((leadingCause s).map rowPosition).getD 0 := by
  refine Nat.mod_eq_of_lt ?_
  cases leadingCause s with
  | none => exact Nat.succ_pos 66
  | some r =>
    have bound := (rowIndex r).isLt
    show (rowIndex r).val + 1 < 67
    omega

/-! ### The leading cause -/

/-- The first row of the table with a property is the one of lowest position. -/
theorem find?_of_sorted {l : List Row} (sorted : l.Pairwise fun a b => rowPosition a < rowPosition b) {q : Row → Bool} {r : Row}
    (first : l.find? q = some r) {x : Row} (mem : x ∈ l) (hx : q x = true) : rowPosition r ≤ rowPosition x := by
  induction l with
  | nil => cases mem
  | cons a rest ih =>
    obtain ⟨low, tail⟩ := List.pairwise_cons.1 sorted
    cases qa : q a with
    | true =>
      rw [List.find?_cons_of_pos qa] at first
      obtain rfl := Option.some.inj first
      rcases List.mem_cons.1 mem with rfl | later
      · exact le_rfl
      · exact (low x later).le
    | false =>
      rw [List.find?_cons_of_neg (by rw [qa]; decide)] at first
      rcases List.mem_cons.1 mem with rfl | later
      · rw [qa] at hx
        exact absurd hx Bool.false_ne_true
      · exact ih tail first later

theorem rowPosition_injective {r q : Row} (h : rowPosition r = rowPosition q) : r = q :=
  rowIndex_injective (Fin.ext (Nat.succ.inj h))

/-- The row of lowest position that a class leads with. -/
def leadOfClass (s : State) (c : CauseClass) : Option Row := allRows.find? fun r => decide (rowClass r = c) && reacts s r

theorem leadOfClass_none_iff (s : State) (c : CauseClass) : leadOfClass s c = none ↔ ∀ x, rowClass x = c → reacts s x = false := by
  simp [leadOfClass, mem_allRows]

theorem leadOfClass_some {c : CauseClass} {r : Row} (h : leadOfClass s c = some r) : rowClass r = c ∧ reacts s r = true ∧
    ∀ x, rowClass x = c → reacts s x = true → rowPosition r ≤ rowPosition x := by
  have found := List.find?_some h
  rw [Bool.and_eq_true, decide_eq_true_iff] at found
  refine ⟨found.1, found.2, fun x cls hx => find?_of_sorted allRows_sorted h (mem_allRows x) ?_⟩
  rw [Bool.and_eq_true, decide_eq_true_iff]
  exact ⟨cls, hx⟩

theorem leadingCause_eq (s : State) : leadingCause s = (CauseClass.fire :: (cfg s).ranking.toList).findSome? (leadOfClass s) := rfl

/-- The rank of a row: the place of its class in the order of classes. -/
def rowRank (s : State) (r : Row) : Nat := (CauseClass.fire :: (cfg s).ranking.toList).idxOf (rowClass r)

/-- A row leads another one: its class ranks higher, or as high with a lower or the same position. -/
def Leads (s : State) (r x : Row) : Prop := rowRank s r < rowRank s x ∨ rowRank s r = rowRank s x ∧ rowPosition r ≤ rowPosition x

theorem leads_of_leadingCause {r : Row} (lead : leadingCause s = some r) : reacts s r = true ∧ ∀ x, reacts s x = true → Leads s r x := by
  rw [leadingCause_eq, List.findSome?_eq_some_iff] at lead
  obtain ⟨before, c, later, order, found, none_before⟩ := lead
  obtain ⟨cls, stands, lowest⟩ := leadOfClass_some found
  have outside {x : Row} (hx : reacts s x = true) : rowClass x ∉ before := fun mem => by
    have out := (leadOfClass_none_iff s (rowClass x)).1 (none_before _ mem) x rfl
    rw [hx] at out
    exact absurd out (by decide)
  have rank {x : Row} (hx : reacts s x = true) : rowRank s x = before.length + (c :: later).idxOf (rowClass x) := by
    unfold rowRank
    rw [order, List.idxOf_append_of_notMem (outside hx)]
  refine ⟨stands, fun x hx => ?_⟩
  unfold Leads
  rw [rank stands, rank hx, cls, List.idxOf_cons_self]
  by_cases same : rowClass x = c
  · rw [same, List.idxOf_cons_self]
    exact .inr ⟨rfl, lowest x same hx⟩
  · rw [List.idxOf_cons_ne later fun e => same e.symm]
    exact .inl (by omega)

/-- Of two rows that lead each other each is the other. -/
theorem eq_of_leads {r x : Row} (h : Leads s r x) (k : Leads s x r) : r = x := by
  unfold Leads at h k
  exact rowPosition_injective (by omega)

theorem leadingCause_none_iff (ranked : ∀ c : CauseClass, c ≠ .fire → c ∈ (cfg s).ranking.toList) :
    leadingCause s = none ↔ ∀ r, reacts s r = false := by
  have named (c : CauseClass) : c ∈ CauseClass.fire :: (cfg s).ranking.toList := by
    by_cases fire : c = .fire
    · rw [fire]; exact List.mem_cons_self
    · exact List.mem_cons_of_mem _ (ranked c fire)
  rw [leadingCause_eq, List.findSome?_eq_none_iff]
  refine ⟨fun out r => (leadOfClass_none_iff s _).1 (out (rowClass r) (named _)) r rfl, fun out c _ => ?_⟩
  exact (leadOfClass_none_iff s c).2 fun x _ => out x

theorem leadingCause_some_iff (ranked : ∀ c : CauseClass, c ≠ .fire → c ∈ (cfg s).ranking.toList) (r : Row) :
    leadingCause s = some r ↔ reacts s r = true ∧ ∀ x, reacts s x = true → Leads s r x := by
  refine ⟨leads_of_leadingCause, fun ⟨stands, leads⟩ => ?_⟩
  cases lead : leadingCause s with
  | none =>
    have out := (leadingCause_none_iff ranked).1 lead r
    rw [stands] at out
    exact absurd out (by decide)
  | some q =>
    obtain ⟨stands', leads'⟩ := leads_of_leadingCause lead
    exact congrArg some (eq_of_leads (leads' r stands) (leads q stands'))

/-! ### Lengths of payloads -/

theorem length_packIdBytes_of_le {id : PackId} (h : id.length ≤ 12) : (packIdBytes id).length = 13 := by
  simp only [packIdBytes, List.length_cons, List.length_append, List.length_replicate]
  omega

theorem length_offerPayload {o : OfferPayload} (h : o.id.length ≤ 12) : (offerBytes o).length = 32 := by
  rw [offerBytes_eq, List.length_append, length_packIdBytes_of_le h]
  rfl

theorem length_replyItems (p : ReplyPayload) : (replyItems p).length ≤ 45 := by
  unfold replyItems
  split
  · exact Nat.zero_le 45
  · rw [List.length_take]
    have room := (Config.replyLength p).isLt
    omega

theorem length_replyPayload (r : Reply) : (replyPayload r).length = 3 + (replyItems r.payload).length := by
  rw [replyPayload, List.length_append]
  rfl

end Sys2Proof.Machine

open Sys2Proof Sys2Proof.Machine

/-- Settles O29: the order of `chooseFrame`, the items of `serviceStatus`, the first row of the first class, the lengths by kind. -/
theorem attemptTakesFirstSource : Obligations.AttemptTakesFirstSource := by
  unfold Obligations.AttemptTakesFirstSource
  refine ⟨fun s hs => ?_, fun s => ?_, fun s ranked => ?_, fun f => ?_⟩
  · have chosen := chooseFrame_of_inService hs
    refine ⟨fun idle free => ⟨fun x fire => ?_, fun x noFire thermal => ?_, fun noFire noThermal pending => ?_,
      fun f rest noFire noThermal quiet fifo => ?_, fun r rest noFire noThermal quiet empty fifo => ?_,
      fun noFire noThermal quiet empty silent => ?_⟩, exec_attempt_of_busy⟩
    · exact exec_attempt_of_some idle free (by rw [chosen, fire]; rfl)
    · exact exec_attempt_of_some idle free (by rw [chosen, noFire, thermal]; rfl)
    · exact exec_attempt_of_some idle free (by rw [chosen, noFire, noThermal, pending]; rfl)
    · exact exec_attempt_of_some idle free (by rw [chosen, noFire, noThermal, quiet, fifo]; rfl)
    · exact exec_attempt_of_some idle free (by rw [chosen, noFire, noThermal, quiet, empty, fifo]; rfl)
    · exact exec_attempt_of_none (by rw [chosen, noFire, noThermal, quiet, empty, silent]; rfl)
  · refine ⟨fun operating => ?_, fun maintenance => ?_, rfl, rfl, serviceStatus_bay s, serviceStatus_of_no_zone, serviceStatus_of_zone,
      raisedClasses_iff s, fireSections_of_raised, fireSections_of_lowered, fun k _ => thermalSections_iff s, leading_val s⟩
    · show reportedMode s = .operating
      rw [reportedMode, operating]
    · show reportedMode s = .maintenance
      rw [reportedMode, maintenance]
  · exact ⟨leadingCause_none_iff ranked, leadingCause_some_iff ranked⟩
  · refine ⟨?_, ?_, ?_, ?_, ?_, ?_⟩
    · rintro p rfl
      exact length_statusBytes p
    · rintro c x rfl
      rfl
    · rintro d o rfl short
      exact length_offerPayload short
    · rintro d id (rfl | rfl | rfl) short <;> exact length_packIdBytes_of_le short
    · rintro d id r rfl short
      show (packIdBytes id ++ [codeByte (declineCode r)]).length = 14
      rw [List.length_append, length_packIdBytes_of_le short]
      rfl
    · rintro r rfl
      have length := length_replyPayload r
      have items := length_replyItems r.payload
      show 3 ≤ (replyPayload r).length ∧ (replyPayload r).length ≤ 48 ∧ (replyPayload r).take 3 = _ ∧ _
      refine ⟨by omega, by omega, rfl, fun plain => ?_⟩
      show (replyPayload r).length = 3
      rw [length, plain]
      rfl
end

section
/-! SUPPORT. The requests on a bay's pack: ADMIT with its checks, START and REJECT; settles O32 and O33. -/

namespace Sys2Proof.Machine

variable {s t u v : State} {h : Header} {b : BayIdx} {bay : Byte}

/-! ### Requests -/

/-- A request carried out on the state u, however its answer writes that state and its items. -/
theorem performs_of_eq (hr : requestTaken s h = true) {kind : Byte} {f : State → Answer} {p q : ReplyPayload}
    (hf : f s = { result := .done, payload := p, state := settle v }) (state : v = u) (items : p = q) :
    Performs (request h kind f s) u h kind q := by
  subst state items
  exact request_performs hr hf

/-- A request answered DONE with items and nothing else changed. -/
theorem request_reports (hr : requestTaken s h = true) {kind : Byte} {f : State → Answer} {p : ReplyPayload} (hf : f s = report s p) :
    Reports (request h kind f s) s h kind p := by
  rw [Reports, request_of_taken hr, hf, report]

theorem bayArg_eq_none_iff (s : State) (bay : Byte) : bayArg s bay = none ↔ 4 ≤ bay.toNat ∨ (cfg s).bayCount ≤ bay.toNat := by
  unfold bayArg
  split
  · split
    · simp; omega
    · simp; omega
  · simp; omega

/-! ### ADMIT (R52, R53) -/

theorem admitInRange_iff (id : PackId) (cls cells : Byte) (edecl : Option (BitVec 24)) :
    admitInRange id cls cells edecl = true ↔
      cls.toNat ≤ 3 ∧ 1 ≤ cells.toNat ∧ cells.toNat ≤ 250 ∧ (∀ e, edecl = some e → e.toNat ≤ 1000000) ∧
        1 ≤ id.length ∧ id.length ≤ 12 ∧ ∀ c ∈ id, 32 ≤ c.toNat ∧ c.toNat ≤ 126 := by
  unfold admitInRange
  simp only [Bool.and_eq_true, decide_eq_true_iff, packIdOk_iff, Option.all_eq_true, and_assoc]

section
variable {id : PackId} {cls cells : Byte} {edecl : Option (BitVec 24)}

theorem admitAnswer_of_noBay (hb : bayArg s bay = none) : admitAnswer bay id cls cells edecl s = refuse s .range := by
  rw [admitAnswer, hb]

/-- The checks of R52 on a configured bay. -/
theorem admitAnswer_of_bay (hb : bayArg s bay = some b) : admitAnswer bay id cls cells edecl s =
    if !admitInRange id cls cells edecl then refuse s .range
    else if s.bays[b].state ≠ .loaded then refuse s .state
    else if (recordOfId s id).isSome then refuse s .duplicate
    else if !recordFree s then refuse s .full
    else if 65534 < (deriveThresholds s (Fin.ofNat 4 cls.toNat) cells.toNat).vend ∨
        65534 < (deriveThresholds s (Fin.ofNat 4 cls.toNat) cells.toNat).vrel then refuse s .range
    else
      { result := .done
        payload := .admitted (s.packs.records.length + 1) (deriveThresholds s (Fin.ofNat 4 cls.toNat) cells.toNat).vend
          (deriveThresholds s (Fin.ofNat 4 cls.toNat) cells.toNat).vrel (deriveThresholds s (Fin.ofNat 4 cls.toNat) cells.toNat).iend
        state := settle (admitPack s b (admittedRecord s b id (Fin.ofNat 4 cls.toNat) cells.toNat (edecl.map BitVec.toNat))
          (deriveThresholds s (Fin.ofNat 4 cls.toNat) cells.toNat)) } := by
  have count (r : PackRecord) (t : Thresholds) : (admitPack s b r t).packs.records.length = s.packs.records.length + 1 :=
    List.length_append
  simp only [admitAnswer, hb, count]

end

/-! ### START and REJECT (R29, R42) -/

theorem startAnswer_of_bay (hb : bayArg s bay = some b) : startAnswer bay s =
    if s.bays[b].state = .admitted then if connectPermit s b then doneSettled (enterConnecting s b) else refuse s .permit
    else refuse s .state := by rw [startAnswer, hb]

theorem rejectAnswer_of_bare (hb : bayArg s bay = some b) (st : s.bays[b].state = .empty ∨ s.bays[b].state = .loaded) :
    rejectAnswer bay s = refuse s .state := by
  simp only [rejectAnswer, hb]
  rcases st with e | e <;> rw [e]

theorem rejectAnswer_of_quarantine (hb : bayArg s bay = some b) (st : s.bays[b].state = .quarantine) : rejectAnswer bay s = done s := by
  simp only [rejectAnswer, hb]
  rw [st]

theorem rejectAnswer_of_holdsPack (hb : bayArg s bay = some b) (holds : holdsPack s b = true) :
    rejectAnswer bay s = doneSettled (enterQuarantine s b .rejected) := by
  obtain ⟨full, admitted, free⟩ : s.bays[b].state ≠ .empty ∧ s.bays[b].state ≠ .loaded ∧ s.bays[b].state ≠ .quarantine :=
    of_decide_eq_true holds
  simp only [rejectAnswer, hb]
  cases st : s.bays[b].state with
  | empty => exact absurd st full
  | loaded => exact absurd st admitted
  | quarantine => exact absurd st free
  | admitted | connecting | discharging | resting | held | safe | offering | releasing => rfl

/-- A reservation given up ends in the record of the bay; what it does besides is the claim's end or a WITHDRAW. -/
theorem releaseReservation_spec {r : PackRecord} (hr : recordOfBay s b = some r) :
    ∃ v, releaseReservation s b = updRecordOfBay v b (fun r => { r with dest := none, deadline := none }) ∧ v.packs = s.packs ∧
      v.bays = s.bays := by
  have queued (d : Addr) (x : HandoverBody) : (queueHandover s d x).packs = s.packs ∧ (queueHandover s d x).bays = s.bays := by
    unfold queueHandover
    split <;> exact ⟨rfl, rfl⟩
  unfold releaseReservation
  rw [hr]
  dsimp only
  split
  · split
    · exact ⟨_, rfl, rfl, rfl⟩
    · exact ⟨_, rfl, queued _ _⟩
  · exact ⟨_, rfl, rfl, rfl⟩

theorem counters_releaseReservation (s : State) (b : BayIdx) : (releaseReservation s b).packs.counters = s.packs.counters ∧
    (releaseReservation s b).bays = s.bays := by
  cases hr : recordOfBay s b with
  | none =>
    unfold releaseReservation
    rw [hr]
    exact ⟨rfl, rfl⟩
  | some r =>
    obtain ⟨v, e, packs, bays⟩ := releaseReservation_spec hr
    rw [e]
    have counters : v.packs.counters = s.packs.counters := congrArg PackTable.counters packs
    exact ⟨counters, bays⟩

theorem abandonIfOffering_bay (s : State) (b : BayIdx) : (abandonIfOffering s b).bays = s.bays := by
  unfold abandonIfOffering
  split <;> rfl

/-- The entry of a bay that leaves OFFERING without an answer. -/
theorem entry_abandonIfOffering (h : s.bays[b].state = .offering) : (abandonIfOffering s b).handover[b].entry = .none := by
  unfold abandonIfOffering
  rw [if_pos h]
  simp [abandonOffer, dropOffer, updBus, updHandover]

/-- What a quarantined bay shows, whatever state it came from. -/
theorem enterQuarantine_bay (s : State) (b : BayIdx) (reason : QuarantineReason) :
    (enterQuarantine s b reason).bays[b].state = .quarantine ∧ (enterQuarantine s b reason).bays[b].reason = some reason ∧
      (enterQuarantine s b reason).bays[b].rgUntil = none ∧ (enterQuarantine s b reason).packs.counters = s.packs.counters ∧
      ∀ c, c ≠ b → (enterQuarantine s b reason).bays[c] = s.bays[c] := by
  by_cases releasing : s.bays[b].state = .releasing
  · obtain ⟨counters, bays⟩ := counters_releaseReservation s b
    rw [enterQuarantine_of_releasing releasing, bay_updBay]
    refine ⟨rfl, rfl, rfl, counters, fun c away => ?_⟩
    rw [bays_updBay, if_neg away, bays]
  · rw [enterQuarantine_of_not_releasing releasing, bay_updBay]
    refine ⟨rfl, rfl, rfl, congrArg PackTable.counters (abandonIfOffering_packs s b), fun c away => ?_⟩
    rw [bays_updBay, if_neg away, abandonIfOffering_bay]

end Sys2Proof.Machine

open Sys2Proof Sys2Proof.Machine

/-- Settles O32: the checks in their order, then the state of an admission. -/
theorem admitChecksAndRecords : Obligations.AdmitChecksAndRecords := by
  unfold Obligations.AdmitChecksAndRecords
  intro h bay id cls cells edecl s hr o formed c vend vrel
  have form_iff : admitInRange id cls cells edecl = true ↔ formed := admitInRange_iff id cls cells edecl
  refine ⟨bayArg_eq_none_iff s bay, fun out => request_refuses hr (admitAnswer_of_noBay out), fun b hb => ?_⟩
  have answer := admitAnswer_of_bay (id := id) (cls := cls) (cells := cells) (edecl := edecl) hb
  refine ⟨fun bad => ?_, fun good st => ?_, fun good st => ?_⟩
  · have test : admitInRange id cls cells edecl = false := Bool.eq_false_of_not_eq_true (mt form_iff.1 bad)
    exact request_refuses hr (answer.trans (if_pos (by rw [test]; rfl)))
  all_goals rw [if_neg (by rw [form_iff.2 good]; decide)] at answer
  · exact request_refuses hr (answer.trans (if_pos st))
  · rw [if_neg (not_not_intro st)] at answer
    refine ⟨fun twice => ?_, fun new full => ?_, fun new room => ⟨fun high => ?_, fun low low' => ?_⟩⟩
    · exact request_refuses hr (answer.trans (if_pos (Option.isSome_iff_ne_none.2 twice)))
    all_goals rw [new, if_neg (by decide)] at answer
    · have test : recordFree s = false := decide_eq_false (Nat.not_lt.2 full)
      exact request_refuses hr (answer.trans (if_pos (by rw [test]; rfl)))
    all_goals rw [if_neg (by rw [show recordFree s = true from decide_eq_true room]; decide)] at answer
    · exact request_refuses hr (answer.trans (if_pos high))
    · have within : ¬(65534 < vend ∨ 65534 < vrel) := by omega
      exact performs_of_eq hr (answer.trans (if_neg within)) rfl rfl

/-- Settles O33: START by the state and the permit, REJECT by the state the bay leaves. -/
theorem startAndReject : Obligations.StartAndReject := by
  unfold Obligations.StartAndReject
  intro h bay s hr
  refine ⟨fun out => ⟨request_refuses hr (by rw [startAnswer, out]), request_refuses hr (by rw [rejectAnswer, out])⟩, fun b hb => ?_⟩
  have start := startAnswer_of_bay hb
  refine ⟨fun st permit => ?_, fun st lost => ?_, fun st => ?_, fun st => request_refuses hr (rejectAnswer_of_bare hb st), fun st => ?_,
    fun holds => ?_⟩
  · rw [if_pos st, if_pos permit] at start
    refine ⟨enterConnecting s b, request_performs hr start, ?_, ?_, ?_, ?_, rfl, fun c away => ?_⟩
    · rw [enterConnecting, bay_updBay]
    · rw [enterConnecting, bay_updBay]; rfl
    · rw [enterConnecting, bay_updBay]
    · rw [coilOn, enterConnecting, bay_updBay]; rfl
    · rw [enterConnecting, bays_updBay, if_neg away]
  · rw [if_pos st, if_neg (by rw [lost]; decide)] at start
    exact request_refuses hr start
  · exact request_refuses hr (start.trans (if_neg st))
  · exact request_reports hr (rejectAnswer_of_quarantine hb st)
  · obtain ⟨state, reason, rg, counters, others⟩ := enterQuarantine_bay s b .rejected
    refine ⟨enterQuarantine s b .rejected, request_performs hr (rejectAnswer_of_holdsPack hb holds), state, reason, rg, counters, others,
      fun coil => ?_, fun st => ?_, fun r st record => ?_⟩
    · have away : s.bays[b].state ≠ .releasing := by rcases coil with e | e <;> rw [e] <;> decide
      rw [enterQuarantine_of_not_releasing away, bay_updBay]
      exact if_pos coil
    · rw [enterQuarantine_of_not_releasing (by rw [st]; decide)]
      exact entry_abandonIfOffering st
    · rw [enterQuarantine_of_releasing st]
      refine ⟨?_, fun id hid own => ?_, fun station id hid out away => ?_⟩
      · obtain ⟨v, e, packs, -⟩ := releaseReservation_spec record
        have record' : recordOfBay v b = some r := by unfold recordOfBay; rw [packs]; exact record
        rw [e]
        have written := recordOfBay_updRecordOfBay v b (fun r => { r with dest := none, deadline := none }) fun _ => ⟨rfl, rfl⟩
        rw [record'] at written
        exact written
      · rw [releaseReservation_of_dest record hid own, if_pos rfl]
        refine ⟨?_, rfl⟩
        show (updHandover s b fun x => { x with claim := false }).handover[b].claim = false
        simp [updHandover]
      · rw [releaseReservation_of_dest record hid out, if_neg away, queueHandover_eq]
        refine ⟨?_, fun room => ?_⟩
        · split <;> rfl
        · rw [if_pos room]
          rfl
end

section
/-! SUPPORT. The requests that clear packs and those of the zone; settles O34 and O35. -/

namespace Sys2Proof.Machine

variable {s : State} {h : Header} {b : BayIdx} {bay : Byte}

/-! ### CLEAR and RESOLVE-LOST (R43, R63 to R65) -/

theorem clearBayAnswer_of_stays (hb : bayArg s bay = some b) (stays : s.bays[b].state ≠ .quarantine ∨ s.meas[b].pp.filtered = true) :
    clearBayAnswer bay s = refuse s .state := by
  simp only [clearBayAnswer, hb]
  cases recordOfBay s b with
  | none => rfl
  | some r =>
    refine if_neg fun ⟨quarantine, gone⟩ => ?_
    rcases stays with away | present
    · exact away quarantine
    · rw [gone] at present
      exact Bool.false_ne_true present

theorem clearBayAnswer_of_gone {r : PackRecord} (hb : bayArg s bay = some b) (st : s.bays[b].state = .quarantine)
    (gone : s.meas[b].pp.filtered = false) (hr : recordOfBay s b = some r) :
    clearBayAnswer bay s =
      { result := .done, payload := .clearedPack r.id s.bays[b].reason r.restPassed r.degraded r.thermal
        state := settle (clearBay s b) } := by
  simp only [clearBayAnswer, hb, hr]
  exact if_pos ⟨st, gone⟩

theorem packs_clearBay {r : PackRecord} (hr : recordOfBay s b = some r) :
    (clearBay s b).packs =
      { s.packs with
        records := s.packs.records.eraseP (isAtBay b)
        counters := { s.packs.counters with cleared := s.packs.counters.cleared + 1 }
        dischargedTotal := min 281474976710655 (s.packs.dischargedTotal + r.edis.toNat) } := by
  unfold clearBay countEnergyOfBay
  rw [hr]
  rfl

/-- The bay and its measurement once its record is cleared; the others stay. -/
theorem bays_clearBay (s : State) (b : BayIdx) :
    (clearBay s b).bays[b].state = .empty ∧ (clearBay s b).bays[b].reason = none ∧
      (clearBay s b).meas[b] = { s.meas[b] with thresholds := none } ∧
      ∀ c, c ≠ b → (clearBay s b).bays[c] = s.bays[c] ∧ (clearBay s b).meas[c] = s.meas[c] := by
  let emptied : Bay → Bay := fun x =>
    { x with state := .empty, ret := none, restUntil := none, backoffUntil := none, endArmed := false, reason := none, foundAtStart := false }
  have bays : (clearBay s b).bays = s.bays.set b.val (emptied s.bays[b]) b.isLt := rfl
  have meas : (clearBay s b).meas = s.meas.set b.val { s.meas[b] with thresholds := none } b.isLt := rfl
  refine ⟨?_, ?_, ?_, fun c away => ?_⟩
  · simp [bays, emptied]
  · simp [bays, emptied]
  · simp [meas]
  · have ne : b.val ≠ c.val := fun e => away (Fin.ext e.symm)
    simp [bays, meas, ne]

theorem rest_clearBay (s : State) (b : BayIdx) : { clearBay s b with packs := s.packs, bays := s.bays, meas := s.meas } = s := by
  simp only [clearBay, countEnergyOfBay, emptyBay, countCleared, updMeas, updBay, updCounters, updRecords, updPacks, addDischarged]

theorem clearChuteAnswer_of_none (none_ : ∀ r ∈ s.packs.records, r.stage ≠ .unidentified) : clearChuteAnswer s = refuse s .notFound := by
  have unfound : s.packs.records.find? isUnidentified = none :=
    List.find?_eq_none.2 fun r mem k => none_ r mem (of_decide_eq_true k)
  rw [clearChuteAnswer, unfound]

/-- The first UNIDENTIFIED record in table order goes. -/
theorem clearChuteAnswer_of_some {ahead behind : List PackRecord} {r : PackRecord} (split_ : s.packs.records = ahead ++ r :: behind)
    (before : ∀ x ∈ ahead, x.stage ≠ .unidentified) (st : r.stage = .unidentified) :
    clearChuteAnswer s =
      { result := .done, payload := .clearedChute r.admittedAt
        state := settle (countCleared (updRecords s fun _ => ahead ++ behind)) } := by
  have first : isUnidentified r = true := decide_eq_true st
  have others : ∀ x ∈ ahead, ¬isUnidentified x = true := fun x mem k => before x mem (of_decide_eq_true k)
  have found : s.packs.records.find? isUnidentified = some r := by
    rw [split_, List.find?_append, List.find?_eq_none.2 others, Option.none_or, List.find?_cons_of_pos first]
  have erased : (ahead ++ r :: behind).eraseP isUnidentified = ahead ++ behind := by
    rw [List.eraseP_append_right _ others, List.eraseP_cons_of_pos first]
  rw [clearChuteAnswer, found]
  simp only [updRecords, updPacks, split_, erased]

theorem resolveLostAnswer_of_record {id : PackId} {r : PackRecord} (hr : recordOfId s id = some r) :
    resolveLostAnswer id s = if r.stage = .missing then
      doneSettled (updCounters (removeRecordOfId s id) fun c => { c with lost := c.lost + 1 }) else refuse s .state := by
  rw [resolveLostAnswer, hr]

/-! ### The zone's requests (R93, R98, R105) -/

section
variable {z : ZoneConfig}

theorem zoneStartAnswer_of_zone (hz : zoneCfg s = some z) : zoneStartAnswer s =
    if s.zone.state = .air then
      if purgePermit s && !zoneHeld s then doneSettled (enterPurging s) else refuse s .permit
    else refuse s .state := by
  simp only [zoneStartAnswer, hasZone_of_cfg hz, true_and]

theorem enterPurging_eq (hz : zoneCfg s = some z) (st : s.zone.state = .air) : enterPurging s =
    { s with zone := { s.zone with
      state := .purging, since := nodeCount s, fpUntil := none, settleUntil := none, topUp := false
      purgeUntil := some (s.now + z.purgeLimit * 2000) } } := by
  have entered : s.zone.state ≠ .purging := by rw [st]; decide
  simp [enterPurging, stopAtmosphere, setZone, updZone, hz, entered, Config.second]

theorem enterRunning_eq (st : s.zone.state = .ready) :
    enterRunning s = { s with zone := { s.zone with state := .running, since := nodeCount s } } := by
  simp [enterRunning, setZone, updZone, st]

theorem zoneStopAnswer_of_held (hz : zoneCfg s = some z)
    (st : s.zone.state = .purging ∨ s.zone.state = .inert ∨ s.zone.state = .ready ∨ s.zone.state = .alarm) :
    zoneStopAnswer s = if s.zone.queue = [] ∧ claimCount s = 0 then doneSettled (enterAir s) else refuse s .queue := by
  rw [zoneStopAnswer, if_pos (hasZone_of_cfg hz)]
  rcases st with e | e | e | e <;> rw [e]

theorem zoneStopAnswer_of_busy (hz : zoneCfg s = some z) (st : s.zone.state = .running ∨ s.zone.state = .fire ∨ s.zone.state = .lockout) :
    zoneStopAnswer s = refuse s .state := by
  rw [zoneStopAnswer, if_pos (hasZone_of_cfg hz)]
  rcases st with e | e | e <;> rw [e]

/-- RUN and HALT are carried out in READY and RUNNING alone. -/
theorem runAndHalt_of_other (ready : s.zone.state ≠ .ready) (running : s.zone.state ≠ .running) :
    runAnswer s = refuse s .state ∧ haltAnswer s = refuse s .state := by
  unfold runAnswer haltAnswer
  cases st : s.zone.state with
  | ready => exact absurd st ready
  | running => exact absurd st running
  | air | purging | inert | alarm | fire | lockout => exact ⟨ite_self _, ite_self _⟩

end

end Sys2Proof.Machine

open Sys2Proof Sys2Proof.Machine

/-- Settles O34: each request by the record it finds. -/
theorem clearsAndResolveLost : Obligations.ClearsAndResolveLost := by
  unfold Obligations.ClearsAndResolveLost
  intro h s hr
  refine ⟨fun bay => ⟨fun out => request_refuses hr (by rw [clearBayAnswer, out]), fun b hb => ⟨fun stays => ?_, fun r st gone record => ?_⟩⟩,
    fun none_ => request_refuses hr (clearChuteAnswer_of_none none_), fun ahead r behind split_ before st => ?_,
    fun id => ⟨fun unknown => request_refuses hr (by rw [resolveLostAnswer, unknown]), fun r record => ?_⟩⟩
  · exact request_refuses hr (clearBayAnswer_of_stays hb stays)
  · obtain ⟨state, reason, meas, others⟩ := bays_clearBay s b
    exact ⟨clearBay s b, request_performs hr (clearBayAnswer_of_gone hb st gone record), packs_clearBay record, state, reason, meas, others,
      rest_clearBay s b⟩
  · exact performs_of_eq hr (clearChuteAnswer_of_some split_ before st) rfl rfl
  · have answer := resolveLostAnswer_of_record record
    exact ⟨fun other => request_refuses hr (answer.trans (if_neg other)),
      fun missing => performs_of_eq hr (answer.trans (if_pos missing)) rfl rfl⟩

/-- Settles O35: each request by the state of the zone. -/
theorem zoneRequests : Obligations.ZoneRequests := by
  unfold Obligations.ZoneRequests
  intro h s hr
  refine ⟨fun bare => ?_, fun z hz => ?_⟩
  · have no_zone : ¬hasZone s = true := by unfold hasZone; rw [bare]; decide
    exact ⟨request_refuses hr (if_neg fun k => no_zone k.1), request_refuses hr (if_neg no_zone), request_refuses hr (if_neg no_zone),
      request_refuses hr (if_neg no_zone)⟩
  · have zone : hasZone s = true := hasZone_of_cfg hz
    have start := zoneStartAnswer_of_zone hz
    refine ⟨fun st permit free => ?_, fun st lost => ?_, fun st => request_refuses hr (start.trans (if_neg st)), fun st => ?_,
      fun st => ⟨fun empty unclaimed => ?_, fun taken => ?_⟩, fun st => request_refuses hr (zoneStopAnswer_of_busy hz st),
      fun st permit => ?_, fun st lost => ?_, fun st => ?_, fun ready running => ?_, fun st => ?_, fun st => ?_, fun ready running => ?_⟩
    · rw [if_pos st, permit, free] at start
      exact performs_of_eq hr start (enterPurging_eq hz st) rfl
    · have test : (purgePermit s && !zoneHeld s) = false := by
        rcases lost with e | e <;> rw [e]
        · rfl
        · exact Bool.and_false _
      rw [if_pos st, test] at start
      exact request_refuses hr start
    · exact request_reports hr (by rw [zoneStopAnswer, if_pos zone, st]; rfl)
    · have entered : s.zone.state ≠ .air := by rcases st with e | e | e | e <;> rw [e] <;> decide
      exact performs_of_eq hr ((zoneStopAnswer_of_held hz st).trans (if_pos ⟨empty, unclaimed⟩)) (enterAir_eq entered) rfl
    · have kept : ¬(s.zone.queue = [] ∧ claimCount s = 0) := fun ⟨empty, unclaimed⟩ => taken.elim (· empty) (· unclaimed)
      exact request_refuses hr ((zoneStopAnswer_of_held hz st).trans (if_neg kept))
    · have answer : runAnswer s = doneSettled (enterRunning s) := by rw [runAnswer, if_pos zone, st]; exact if_pos permit
      exact performs_of_eq hr answer (enterRunning_eq st) rfl
    · exact request_refuses hr (by rw [runAnswer, if_pos zone, st]; exact if_neg (by rw [lost]; decide))
    · exact request_reports hr (by rw [runAnswer, if_pos zone, st]; rfl)
    · exact request_refuses hr (runAndHalt_of_other ready running).1
    · have answer : haltAnswer s = doneSettled (enterReady s) := by rw [haltAnswer, if_pos zone, st]
      exact performs_of_eq hr answer (enterReady_eq (by rw [st]; decide)) rfl
    · exact request_reports hr (by rw [haltAnswer, if_pos zone, st]; rfl)
    · exact request_refuses hr (runAndHalt_of_other ready running).2
end

section
/-! SUPPORT. What a lowering of one row and of several leaves, and what an acknowledgement sets; settles O36 and O44. -/

namespace Sys2Proof.Machine

variable {s t : State} {h : Header} {r q : Row}

/-! ### One lowering (R126, R130, R144) -/

/-- A row's fields once it is lowered. -/
def lowered (x : RowState) : RowState :=
  { x with condition := false, raised := false, acked := false, firstOut := false, episode := 0, onset := none, logEntry := none }

theorem rowState_lowerRow_same (s : State) (r : Row) : rowState (lowerRow s r) r = lowered (rowState s r) := by
  unfold lowerRow
  rw [rowState_clearRemote, rowState_updRow_same, rowState_closeEntry]
  rfl

/-- A log entry once the row that holds it is lowered. -/
def closed (s : State) (e : LogEntry) : LogEntry := { e with cleared := some (nodeTime s) }

theorem lowerRow_log_getElem? (s : State) (r : Row) {k : Nat} {e : LogEntry} (held : s.causes.log[k]? = some e) :
    (e.row = r ∧ (rowState s r).logEntry = some e.number → (lowerRow s r).causes.log[k]? = some (closed s e)) ∧
      (¬(e.row = r ∧ (rowState s r).logEntry = some e.number) → (lowerRow s r).causes.log[k]? = some e) := by
  rw [lowerRow_log, List.getElem?_map, held, Option.map_some]
  exact ⟨fun own => congrArg some (if_pos ((isOwnEntry_iff s r e).2 own)), fun other => congrArg some (if_neg (mt (isOwnEntry_iff s r e).1 other))⟩

/-- What a lowering does to the rest of the cause table. -/
theorem lowerRow_causes (s : State) (r : Row) :
    (lowerRow s r).causes.episode = s.causes.episode ∧ (lowerRow s r).causes.nextEntry = s.causes.nextEntry ∧
      (lowerRow s r).causes.remoteFire = (if r = .fd5 then remoteReset else s.causes.remoteFire) ∧
      (lowerRow s r).causes.remoteThermal = (if r = .th3 then remoteReset else s.causes.remoteThermal) := by
  unfold lowerRow clearRemote
  cases r <;> exact ⟨rfl, rfl, rfl, rfl⟩

theorem lowerRow_now (s : State) (r : Row) : nodeTime (lowerRow s r) = nodeTime s := by
  rw [lowerRow_eq]
  rfl

/-! ### Lowerings one after another (R130) -/

/-- The rows lowered one after another. -/
def lowerRows (s : State) (l : List Row) : State := l.foldl lowerRow s

theorem lowerRows_cons (s : State) (r : Row) (l : List Row) : lowerRows s (r :: l) = lowerRows (lowerRow s r) l := rfl

theorem rowState_lowerRows_of_not_mem {l : List Row} (out : q ∉ l) (s : State) : rowState (lowerRows s l) q = rowState s q := by
  induction l generalizing s with
  | nil => rfl
  | cons r l ih =>
    obtain ⟨away, later⟩ := List.ne_and_not_mem_of_not_mem_cons out
    rw [lowerRows_cons, ih later, rowState_lowerRow_of_ne s away]

theorem rowState_lowerRows_of_mem {l : List Row} (once : l.Nodup) (mem : q ∈ l) (s : State) :
    rowState (lowerRows s l) q = lowered (rowState s q) := by
  induction l generalizing s with
  | nil => cases mem
  | cons r l ih =>
    obtain ⟨out, rest⟩ := List.nodup_cons.1 once
    rw [lowerRows_cons]
    rcases List.mem_cons.1 mem with rfl | later
    · rw [rowState_lowerRows_of_not_mem out, rowState_lowerRow_same]
    · have away : q ≠ r := fun e => out (e ▸ later)
      rw [ih rest later, rowState_lowerRow_of_ne s away]

/-- The rest of the cause table after several lowerings, and the rest of the node. -/
theorem lowerRows_causes (l : List Row) (s : State) :
    (lowerRows s l).causes.episode = s.causes.episode ∧ (lowerRows s l).causes.nextEntry = s.causes.nextEntry ∧
      (lowerRows s l).causes.remoteFire = (if .fd5 ∈ l then remoteReset else s.causes.remoteFire) ∧
      (lowerRows s l).causes.remoteThermal = (if .th3 ∈ l then remoteReset else s.causes.remoteThermal) ∧
      { lowerRows s l with causes := s.causes } = s := by
  induction l generalizing s with
  | nil => exact ⟨rfl, rfl, rfl, rfl, rfl⟩
  | cons r l ih =>
    obtain ⟨episode, next, fire, thermal, rest⟩ := ih (lowerRow s r)
    obtain ⟨episode', next', fire', thermal'⟩ := lowerRow_causes s r
    rw [lowerRows_cons]
    refine ⟨episode.trans episode', next.trans next', ?_, ?_, ?_⟩
    · rw [fire, fire']
      by_cases later : Row.fd5 ∈ l <;> by_cases own : r = .fd5 <;> simp [later, own, eq_comm]
    · rw [thermal, thermal']
      by_cases later : Row.th3 ∈ l <;> by_cases own : r = .th3 <;> simp [later, own, eq_comm]
    · have first : { lowerRow s r with causes := s.causes } = s := by rw [lowerRow_eq]
      have both := congrArg (fun u : State => ({ u with causes := s.causes } : State)) rest
      exact both.trans first

/-- Which entry is closed: the one that a lowered row holds. -/
theorem lowerRows_log {l : List Row} (once : l.Nodup) (s : State) :
    (lowerRows s l).causes.log =
      s.causes.log.map fun e => if e.row ∈ l ∧ (rowState s e.row).logEntry = some e.number then closed s e else e := by
  induction l generalizing s with
  | nil => simp [lowerRows]
  | cons r l ih =>
    obtain ⟨out, rest⟩ := List.nodup_cons.1 once
    rw [lowerRows_cons, ih rest, lowerRow_log, List.map_map]
    refine List.map_congr_left fun e _ => ?_
    rw [Function.comp_apply]
    by_cases own : e.row = r
    · have done_ : e.row ∉ l := own ▸ out
      by_cases held : (rowState s e.row).logEntry = some e.number
      · rw [if_pos ((isOwnEntry_iff s r e).2 ⟨own, own ▸ held⟩), if_neg fun k => done_ k.1,
          if_pos ⟨List.mem_cons.2 (.inl own), held⟩]
        rfl
      · rw [if_neg fun k => held (own ▸ ((isOwnEntry_iff s r e).1 k).2), if_neg fun k => done_ k.1, if_neg fun k => held k.2]
    · rw [if_neg fun k => own ((isOwnEntry_iff s r e).1 k).1, rowState_lowerRow_of_ne s own]
      have same : e.row ∈ r :: l ↔ e.row ∈ l := by simp [own]
      simp only [same, closed, lowerRow_now]

/-! ### RESET -/

/-- The rows that a RESET lowers (R130). -/
def resetList (s : State) : List Row := allRows.filter (resettable s)

theorem resetRows_eq (s : State) : resetRows s = lowerRows s (resetList s) := rfl

theorem resetList_nodup (s : State) : (resetList s).Nodup := allRows_nodup.filter _

theorem mem_resetList (s : State) (r : Row) : r ∈ resetList s ↔
    latched r = true ∧ raised s r = true ∧ (rowState s r).condition = false ∧ (rowState s r).acked = true := by
  simp [resetList, resettable, mem_allRows, and_assoc]

theorem exec_reset (hr : requestTaken s h = true) : Performs (exec (.reset h) s) (resetRows s) h 11 (.count (raisedRows (resetRows s)).length) :=
  request_performs hr rfl

/-! ### ACK -/

/-- The rows acknowledged one after another. -/
def ackList (s : State) (l : List Row) : State := l.foldl (fun u r => updRow u r fun x => { x with acked := true }) s

theorem ackList_cons (s : State) (r : Row) (l : List Row) :
    ackList s (r :: l) = ackList (updRow s r fun x => { x with acked := true }) l := rfl

theorem rowState_ackList_of_not_mem {l : List Row} (out : q ∉ l) (s : State) : rowState (ackList s l) q = rowState s q := by
  induction l generalizing s with
  | nil => rfl
  | cons r l ih =>
    obtain ⟨away, later⟩ := List.ne_and_not_mem_of_not_mem_cons out
    rw [ackList_cons, ih later, rowState_updRow_of_ne _ _ away]

theorem rowState_ackList_of_mem {l : List Row} (once : l.Nodup) (mem : q ∈ l) (s : State) :
    rowState (ackList s l) q = { rowState s q with acked := true } := by
  induction l generalizing s with
  | nil => cases mem
  | cons r l ih =>
    obtain ⟨out, rest⟩ := List.nodup_cons.1 once
    rw [ackList_cons]
    rcases List.mem_cons.1 mem with rfl | later
    · rw [rowState_ackList_of_not_mem out, rowState_updRow_same]
    · have away : q ≠ r := fun e => out (e ▸ later)
      rw [ih rest later, rowState_updRow_of_ne _ _ away]

theorem ackList_rest (l : List Row) (s : State) : { ackList s l with causes := { (ackList s l).causes with rows := s.causes.rows } } = s := by
  induction l generalizing s with
  | nil => rfl
  | cons r l ih =>
    have e := congrArg (fun u : State => ({ u with causes := { u.causes with rows := s.causes.rows } } : State))
      (ih (updRow s r fun x => { x with acked := true }))
    exact e

theorem mem_ackRows (s : State) (c : Option CauseClass) (r : Row) :
    r ∈ ackRows s c ↔ raised s r = true ∧ (rowState s r).acked = false ∧ ∀ k, c = some k → rowClass r = k := by
  simp [ackRows, mem_allRows, Option.all_eq_true, and_assoc]

theorem ackRows_nodup (s : State) (c : Option CauseClass) : (ackRows s c).Nodup := allRows_nodup.filter _

theorem ackScope_of_large {scope : Byte} (large : 6 < scope.toNat) : ackScope scope = none := by
  unfold ackScope
  split
  case h_8 => rfl
  all_goals omega

theorem exec_ack {scope : Byte} {c : Option CauseClass} (hr : requestTaken s h = true) (named : ackScope scope = some c) :
    exec (.ack h scope) s = .next (queueReply (ackList s (ackRows s c)) (replyTo h 10 .done (.count (ackRows s c).length))) := by
  have answer : ackAnswer scope s =
      { result := .done, payload := .count (ackRows s c).length, state := ackList s (ackRows s c) } := by
    rw [ackAnswer, named]
    rfl
  show request h 10 (ackAnswer scope) s = _
  rw [request_of_taken hr, answer]

end Sys2Proof.Machine

open Sys2Proof Sys2Proof.Machine

/-- Settles O44: `lowerRow` closes by `isOwnEntry`, and a raising writes an open entry with its row's number. -/
theorem loweringClosesItsEntry : Obligations.LoweringClosesItsEntry := by
  unfold Obligations.LoweringClosesItsEntry
  refine ⟨fun r s => ⟨?_, fun k e held => lowerRow_log_getElem? s r held⟩, fun r s => ?_⟩
  · rw [lowerRow_log, List.length_map]
  · obtain ⟨-, -, log, -⟩ := raiseRow_causes s r
    refine ⟨raisedEntry s r, ?_, rfl, rfl, ?_⟩
    · have room : (s.causes.log ++ [raisedEntry s r]).length - Config.logSize ≤ s.causes.log.length := by
        rw [List.length_append]
        show s.causes.log.length + 1 - 16 ≤ _
        omega
      rw [log, List.drop_append_of_le_length room, List.getLast?_append]
      rfl
    · rw [rowState_raiseRow_same]
      rfl

/-- Settles O36: the rows of the scope acknowledged, the rows of a RESET lowered, each once. -/
theorem ackAndReset : Obligations.AckAndReset := by
  unfold Obligations.AckAndReset
  refine ⟨⟨rfl, rfl, rfl, rfl, rfl, rfl, rfl⟩, fun h s hr => ⟨fun scope large => ?_, fun scope c named => ?_, ?_⟩⟩
  · exact request_refuses hr (by rw [ackAnswer, ackScope_of_large large])
  · have members := mem_ackRows s c
    have once := ackRows_nodup s c
    exact ⟨ackList s (ackRows s c), (ackRows s c).length, exec_ack hr named, fun r k => rowState_ackList_of_mem once ((members r).2 k) s,
      fun r k => rowState_ackList_of_not_mem (mt (members r).1 k) s, ⟨ackRows s c, once, rfl, members⟩, ackList_rest _ s⟩
  · have members := mem_resetList s
    have once := resetList_nodup s
    obtain ⟨episode, next, fire, thermal, rest⟩ := lowerRows_causes (resetList s) s
    have log := lowerRows_log once s
    rw [← resetRows_eq] at episode next fire thermal rest log
    refine ⟨resetRows s, _, exec_reset hr, fun r lowers => ?_, fun r stays => ?_, fun lowers => fire.trans (if_pos ((members _).2 lowers)),
      fun lowers => thermal.trans (if_pos ((members _).2 lowers)), fun k e held => ?_, ?_, episode, next,
      fun stays => fire.trans (if_neg (mt (members _).1 stays)), fun stays => thermal.trans (if_neg (mt (members _).1 stays)),
      ⟨raisedRows (resetRows s), allRows_nodup.filter _, rfl, fun r => ?_⟩, rest⟩
    · rw [resetRows_eq, rowState_lowerRows_of_mem once ((members r).2 lowers)]
      obtain ⟨-, -, ended, -⟩ := lowers
      unfold lowered
      rw [← ended]
    · rw [resetRows_eq, rowState_lowerRows_of_not_mem (mt (members r).1 stays)]
    · rw [log, List.getElem?_map, held, Option.map_some]
      exact ⟨fun ⟨lowers, own⟩ => congrArg some (if_pos ⟨(members _).2 lowers, own⟩),
        fun other => congrArg some (if_neg fun ⟨mem, own⟩ => other ⟨(members _).1 mem, own⟩)⟩
    · rw [log, List.length_map]
    · simp [raisedRows, mem_allRows]
end

section
/-! SUPPORT. The figures that the queries of packs, causes and the log answer; settles O39. -/

namespace Sys2Proof.Machine

variable {s : State} {h : Header} {b : BayIdx} {bay : Byte}

/-! ### Packs -/

/-- The record found stands at the place that is reported. -/
theorem getElem?_findIdx_of_find? {α : Type} {p : α → Bool} {l : List α} {r : α} (found : l.find? p = some r) :
    l[l.findIdx p]? = some r := by
  induction l with
  | nil => cases found
  | cons a rest ih =>
    cases pa : p a with
    | true =>
      rw [List.find?_cons_of_pos pa] at found
      rw [List.findIdx_cons, pa]
      exact found
    | false =>
      rw [List.find?_cons_of_neg (by rw [pa]; decide)] at found
      rw [List.findIdx_cons, pa]
      exact ih found

theorem queryPackIdAnswer_of_record {id : PackId} {r : PackRecord} (hr : recordOfId s id = some r) :
    queryPackIdAnswer id s = report s (.pack (recordView s r (s.packs.records.findIdx (hasId id) + 1))) := by
  rw [queryPackIdAnswer, hr]

theorem queryPackBayAnswer_of_bay (hb : bayArg s bay = some b) : queryPackBayAnswer bay s = report s (.bay (bayView s b)) := by
  rw [queryPackBayAnswer, hb]

theorem mem_holdRows (s : State) (b : BayIdx) (r : Row) : r ∈ holdRows s b ↔ holdsBay s b r = true ∧ reacts s r = true := by
  simp [holdRows, mem_allRows]

theorem remaining_eq_none_iff (s : State) (t : Option Nat) (unit_ : Nat) : remaining s t unit_ = none ↔ t = none := Option.map_eq_none_iff

/-- The summaries that a query by position carries. -/
def summariesFrom (s : State) (p : Nat) : List RecordSummary := ((s.packs.records.drop (p - 1)).take 3).map (summaryOf s)

theorem length_summariesFrom (s : State) (p : Nat) : (summariesFrom s p).length = min 3 (s.packs.records.length - (p - 1)) := by
  simp [summariesFrom]

theorem getElem?_summariesFrom {p k : Nat} {r : PackRecord} (near : k < 3) (held : s.packs.records[p - 1 + k]? = some r) :
    (summariesFrom s p)[k]? = some (summaryOf s r) := by
  unfold summariesFrom
  rw [List.getElem?_map, List.getElem?_take_of_lt near, List.getElem?_drop, held]
  rfl

/-! ### Causes -/

theorem mem_rowsFrom (s : State) (p : Nat) (r : Row) :
    r ∈ rowsFrom s p ↔ p ≤ rowPosition r ∧ (raised s r = true ∨ (rowState s r).inhibit ≠ none) := by
  simp [rowsFrom, mem_allRows, Option.isSome_iff_ne_none]

theorem rowsFrom_sorted (s : State) (p : Nat) : (rowsFrom s p).Pairwise fun a b => rowPosition a < rowPosition b :=
  allRows_sorted.filter _

/-- A row of a sorted list is among the first n, or those are n and all stand before it. -/
theorem mem_take_or_before {l : List Row} (sorted : l.Pairwise fun a b => rowPosition a < rowPosition b) (n : Nat) {x : Row} (mem : x ∈ l) :
    x ∈ l.take n ∨ ((l.take n).length = n ∧ ∀ y ∈ l.take n, rowPosition y < rowPosition x) := by
  have parts := l.take_append_drop n
  rw [← parts] at mem sorted
  rcases List.mem_append.1 mem with early | late
  · exact .inl early
  · refine .inr ⟨?_, fun y hy => (List.pairwise_append.1 sorted).2.2 y hy x late⟩
    have long : 0 < (l.drop n).length := List.length_pos_of_mem late
    rw [List.length_drop] at long
    rw [List.length_take]
    omega

/-- The rows that a query of causes carries. -/
def rowViewsFrom (s : State) (p : Nat) : List RowView := ((rowsFrom s p).take 2).map (rowView s)

theorem mem_rowViewsFrom {p : Nat} {v : RowView} (mem : v ∈ rowViewsFrom s p) : ∃ r ∈ rowsFrom s p, rowView s r = v := by
  obtain ⟨r, hr, e⟩ := List.mem_map.1 mem
  exact ⟨r, List.mem_of_mem_take hr, e⟩

theorem rowViewsFrom_sorted (s : State) (p : Nat) : ((rowViewsFrom s p).map fun v => rowPosition v.row).Pairwise (· < ·) := by
  unfold rowViewsFrom
  rw [List.map_map]
  exact List.pairwise_map.2 ((rowsFrom_sorted s p).take)

/-- A raised or inhibited row from the position on is carried, or two rows before it are. -/
theorem rowViewsFrom_covers {p : Nat} {x : Row} (mem : x ∈ rowsFrom s p) :
    (∃ v ∈ rowViewsFrom s p, v.row = x) ∨
      ((rowViewsFrom s p).length = 2 ∧ ∀ v ∈ rowViewsFrom s p, rowPosition v.row < rowPosition x) := by
  rcases mem_take_or_before (rowsFrom_sorted s p) 2 mem with early | ⟨full, before⟩
  · exact .inl ⟨rowView s x, List.mem_map_of_mem early, rfl⟩
  · refine .inr ⟨(List.length_map _).trans full, fun v hv => ?_⟩
    obtain ⟨r, hr, rfl⟩ := List.mem_map.1 hv
    exact before r hr

theorem remoteView_of_other {r : Row} (fire : r ≠ .fd5) (thermal : r ≠ .th3) : remoteView s r = none := by
  unfold remoteView
  split
  · exact absurd rfl fire
  · exact absurd rfl thermal
  · rfl

/-! ### The log -/

theorem logBounds_of_nil {log : List LogEntry} (empty : log = []) : logBounds log = none ∧ ∀ n, entriesFrom log n = [] := by
  subst empty
  exact ⟨rfl, fun _ => rfl⟩

theorem entriesFrom_of_newest {log : List LogEntry} {newest : LogEntry} (last : log.getLast? = some newest) (n : BitVec 16) :
    entriesFrom log n =
      if 32767 < (newest.number - n).toNat then [] else (log.drop (log.length - 1 - (newest.number - n).toNat)).take 4 := by
  rw [entriesFrom, last]

end Sys2Proof.Machine

open Sys2Proof Sys2Proof.Machine

/-- Settles O39: every query reports figures of the state as it stands. -/
theorem queriesReport : Obligations.QueriesReport := by
  unfold Obligations.QueriesReport
  intro h s hr
  refine ⟨fun id => ⟨fun unknown => request_refuses hr (by rw [queryPackIdAnswer, unknown]), fun r record => ?_⟩,
    fun bay => ⟨fun out => request_refuses hr (by rw [queryPackBayAnswer, out]), fun b hb => ?_⟩,
    fun p => ⟨fun out => request_refuses hr (if_neg (by omega)), fun low high => ?_⟩,
    fun p => ⟨fun out => request_refuses hr (if_neg (by omega)), fun low high => ?_⟩,
    fun n => ⟨fun empty => ?_, fun oldest newest first last => ?_⟩⟩
  · refine ⟨_, request_reports hr (queryPackIdAnswer_of_record record), rfl, Nat.le_add_left 1 _, getElem?_findIdx_of_find? record, ?_⟩
    exact (remaining_eq_none_iff s _ _).trans Option.map_eq_none_iff
  · refine ⟨_, request_reports hr (queryPackBayAnswer_of_bay hb), rfl, fun held => if_pos held, fun quarantine => if_pos quarantine, rfl, rfl,
      mem_holdRows s b, remaining_eq_none_iff s _ _, remaining_eq_none_iff s _ _, ?_⟩
    exact Option.map_map _ _ _
  · refine ⟨summariesFrom s p.toNat, request_reports hr (if_pos ⟨low, high⟩), length_summariesFrom s _, fun k r near held => ?_⟩
    exact ⟨_, getElem?_summariesFrom near held, rfl, rfl, rfl, fun yes => ⟨if_pos yes, if_pos yes⟩,
      fun no => ⟨if_neg (by rw [no]; decide), if_neg (by rw [no]; decide)⟩⟩
  · have members := mem_rowsFrom s p.toNat
    refine ⟨rowViewsFrom s p.toNat, request_reports hr (if_pos ⟨low, high⟩), ?_, rowViewsFrom_sorted s _,
      fun x at_ stands => rowViewsFrom_covers ((members x).2 ⟨at_, stands⟩), fun v hv => ?_⟩
    · rw [rowViewsFrom, List.length_map]
      exact List.length_take_le 2 _
    · obtain ⟨r, mem, rfl⟩ := mem_rowViewsFrom hv
      obtain ⟨at_, stands⟩ := (members r).1 mem
      refine ⟨at_, stands, rfl, rfl, rfl, rfl, rfl, rfl, rfl, remaining_eq_none_iff s _ _, ?_, ?_, remoteView_of_other⟩
      · rintro fire
        show remoteView s r = _
        rw [show r = .fd5 from fire]
        rfl
      · rintro thermal
        show remoteView s r = _
        rw [show r = .th3 from thermal]
        rfl
  · obtain ⟨bounds, entries⟩ := logBounds_of_nil empty
    refine request_reports hr ?_
    rw [queryLogAnswer, bounds, entries, empty]
    rfl
  · have bounds : logBounds s.causes.log = some (oldest.number, newest.number) := by rw [logBounds, first, last]
    refine ⟨entriesFrom s.causes.log n, request_reports hr (by rw [queryLogAnswer, bounds]), fun later => ?_, fun within => ?_⟩
    · rw [entriesFrom_of_newest last, if_pos later]
    · rw [entriesFrom_of_newest last, if_neg (Nat.not_lt.2 within)]
end

section
/-! SUPPORT. The permits as their terms, and the literals as the facts they name; settles O42. -/

namespace Sys2Proof.Machine

variable {s : State} {b : BayIdx} {l : Literal} {ts : Vector Timer 16}

/-! ### Site conditions (R149, R155) -/

theorem mem_termsOf (s : State) (p : Permit) (t : SiteTerm) : t ∈ termsOf s p ↔ t ∈ (cfg s).siteTerms ∧ t.permit = some p := by
  simp [termsOf]

theorem siteCondition_of_bare {p : Permit} (bare : ∀ t ∈ (cfg s).siteTerms, t.permit ≠ some p) : siteCondition s p = true := by
  have empty : termsOf s p = [] := List.eq_nil_iff_forall_not_mem.2 fun t mem => by
    obtain ⟨held, own⟩ := (mem_termsOf s p t).1 mem
    exact bare t held own
  unfold siteCondition
  rw [empty]
  rfl

theorem siteCondition_iff {p : Permit} (termed : ∃ t ∈ (cfg s).siteTerms, t.permit = some p) :
    siteCondition s p = true ↔
      ∃ t ∈ (cfg s).siteTerms, t.permit = some p ∧ ∀ l ∈ t.literals, literalHolds s s.timers l = true := by
  obtain ⟨t, held, own⟩ := termed
  have some_ : (termsOf s p).isEmpty = false :=
    List.isEmpty_eq_false_iff.2 (List.ne_nil_of_mem ((mem_termsOf s p t).2 ⟨held, own⟩))
  simp only [siteCondition, some_, Bool.false_or, List.any_eq_true, List.all_eq_true, mem_termsOf, and_assoc]

/-! ### The permits (R150 to R154) -/

/-- Out of service every permit is false. -/
theorem permits_of_not_inService (out : inService s = false) : (∀ b, connectPermit s b = false ∧ releasePermit s b = false) ∧
    purgePermit s = false ∧ feedPermit s = false ∧ runPermit s = false := by
  simp [connectPermit, releasePermit, purgePermit, feedPermit, runPermit, out]

theorem channelUsable_iff (c : Channel) : channelUsable c = true ↔ c.status = .valid ∨ c.status = .held := decide_eq_true_iff

theorem held_eq_false_iff (s : State) (b : BayIdx) : held s b = false ↔ ∀ r, ¬(holdsBay s b r = true ∧ reacts s r = true) := by
  rw [← Bool.not_eq_true, held_iff]
  exact not_exists

theorem connectPermit_iff (hs : inService s = true) (b : BayIdx) : connectPermit s b = true ↔
    bayConfigured s b = true ∧ (∀ r, ¬(holdsBay s b r = true ∧ reacts s r = true)) ∧
      (s.meas[b].v.status = .valid ∨ s.meas[b].v.status = .held) ∧ (s.meas[b].i.status = .valid ∨ s.meas[b].i.status = .held) ∧
      siteCondition s (.connect b) = true := by
  unfold connectPermit
  simp only [hs, Bool.true_and, Bool.and_eq_true, Bool.not_eq_true', held_eq_false_iff, channelUsable_iff, and_assoc]

theorem destinationOpen_iff (s : State) (b : BayIdx) : destinationOpen s b = true ↔
    if bayDest s b = s.loader.address then accepting s = true ∧ 0 < freeSlots s
    else ∃ p r, watchIndex s (bayDest s b) = some p ∧ s.peers[p].state = .fresh ∧ s.peers[p].reported = some r ∧ r.accepting = true ∧
      0 < r.freeSlots.val := by
  unfold destinationOpen
  by_cases own : bayDest s b = s.loader.address
  · rw [if_pos own, if_pos own, Bool.and_eq_true, decide_eq_true_iff]
  · rw [if_neg own, if_neg own]
    cases watched : watchIndex s (bayDest s b) with
    | none => simp
    | some p =>
      dsimp only
      cases report : s.peers[p].reported with
      | none =>
        refine ⟨fun k => absurd k Bool.false_ne_true, fun ⟨q, r, found, _, held, _⟩ => ?_⟩
        obtain rfl := Option.some.inj found
        rw [report] at held
        cases held
      | some r =>
        simp only [Bool.and_eq_true, decide_eq_true_iff]
        refine ⟨fun ⟨⟨fresh, accepts⟩, free⟩ => ⟨p, r, rfl, fresh, report, accepts, free⟩, fun ⟨q, x, found, fresh, held, accepts, free⟩ => ?_⟩
        obtain rfl := Option.some.inj found
        obtain rfl := Option.some.inj (report.symm.trans held)
        exact ⟨⟨fresh, accepts⟩, free⟩

theorem releasePermit_iff (hs : inService s = true) (b : BayIdx) : releasePermit s b = true ↔
    bayConfigured s b = true ∧ (s.bays[b].state = .safe ∨ s.bays[b].state = .offering) ∧ raised s (.el4 b) = false ∧
      ¬(raised s .fd5 = true ∧ s.causes.remoteFire.sections &&& baySection s b ≠ 0) ∧
      ¬(raised s .th3 = true ∧ s.causes.remoteThermal.sections &&& baySection s b ≠ 0) ∧
      (if bayDest s b = s.loader.address then accepting s = true ∧ 0 < freeSlots s
       else ∃ p r, watchIndex s (bayDest s b) = some p ∧ s.peers[p].state = .fresh ∧ s.peers[p].reported = some r ∧
         r.accepting = true ∧ 0 < r.freeSlots.val) ∧ siteCondition s (.release b) = true := by
  rw [← destinationOpen_iff]
  unfold releasePermit
  simp only [hs, Bool.true_and, Bool.and_eq_true, Bool.not_eq_true', ← Bool.not_eq_true, bne_iff_ne, decide_eq_true_iff, and_assoc]

theorem purgePermit_iff (hs : inService s = true) : purgePermit s = true ↔
    hasZone s = true ∧ s.zmeas.dc.filtered = true ∧ s.zone.state ≠ .fire ∧ s.zone.state ≠ .lockout ∧ siteCondition s .purge = true := by
  unfold purgePermit
  simp only [hs, Bool.true_and, Bool.and_eq_true, decide_eq_true_iff, and_assoc]

theorem headWaiting_iff (s : State) : headWaiting s = true ↔
    ∃ id rest, s.zone.queue = id :: rest ∧ slotStage s id = some .waiting ∧ ∀ x ∈ rest, slotStage s x ≠ some .feeding := by
  unfold headWaiting
  cases queue : s.zone.queue with
  | nil => simp
  | cons id rest => simp

theorem feedPermit_iff (hs : inService s = true) : feedPermit s = true ↔
    hasZone s = true ∧ s.zone.state = .running ∧ raised s .fp1 = false ∧ raised s .fp2 = false ∧ reacts s .ac3 = false ∧
      reacts s .ac7 = false ∧
      (∃ id rest, s.zone.queue = id :: rest ∧ slotStage s id = some .waiting ∧ ∀ x ∈ rest, slotStage s x ≠ some .feeding) ∧
      siteCondition s .feed = true := by
  rw [← headWaiting_iff]
  unfold feedPermit
  simp only [hs, Bool.true_and, Bool.and_eq_true, Bool.not_eq_true', decide_eq_true_iff, and_assoc]

/-- The chamber is not tripped while no latched row of FIRE or ATMOSPHERE is raised. -/
theorem chamberTripped_eq_false_iff (s : State) : chamberTripped s = false ↔
    ∀ r, latched r = true → rowClass r = .fire ∨ rowClass r = .atmosphere → raised s r = false := by
  simp only [chamberTripped, fireRaised, Bool.or_eq_false_iff]
  refine ⟨fun ⟨⟨⟨⟨⟨⟨⟨⟨⟨fd1, fd2⟩, fd3⟩, fd4⟩, fd5⟩, at1⟩, at2⟩, at3⟩, at4⟩, at5⟩ r latches cls => ?_, fun none_ => ?_⟩
  · cases r with
    | fd1 => exact fd1
    | fd2 => exact fd2
    | fd3 => exact fd3
    | fd4 => exact fd4
    | fd5 => exact fd5
    | at1 => exact at1
    | at2 => exact at2
    | at3 => exact at3
    | at4 => exact at4
    | at5 => exact at5
    | fp1 | fp2 => exact absurd latches (by decide)
    | th1 _ | th2 _ | th3 | el1 _ | el2 _ | el3 _ | el4 _ | ln1 _ | ln2 | ac1 _ | ac2 _ | ac3 | ac4 | ac5 | ac6 _ | ac7 =>
      rcases cls with k | k <;> cases k
  · have fire (r : Row) (latches : latched r = true) (cls : rowClass r = .fire) := none_ r latches (.inl cls)
    have atmosphere (r : Row) (latches : latched r = true) (cls : rowClass r = .atmosphere) := none_ r latches (.inr cls)
    exact ⟨⟨⟨⟨⟨⟨⟨⟨⟨fire .fd1 rfl rfl, fire .fd2 rfl rfl⟩, fire .fd3 rfl rfl⟩, fire .fd4 rfl rfl⟩, fire .fd5 rfl rfl⟩,
      atmosphere .at1 rfl rfl⟩, atmosphere .at2 rfl rfl⟩, atmosphere .at3 rfl rfl⟩, atmosphere .at4 rfl rfl⟩, atmosphere .at5 rfl rfl⟩

theorem zoneReadyOrRunning_iff (s : State) :
    zoneReadyOrRunning s = true ↔ hasZone s = true ∧ (s.zone.state = .ready ∨ s.zone.state = .running) := by
  unfold zoneReadyOrRunning
  rw [Bool.and_eq_true, decide_eq_true_iff]

theorem runPermit_iff (hs : inService s = true) : runPermit s = true ↔
    hasZone s = true ∧ (s.zone.state = .ready ∨ s.zone.state = .running) ∧ s.zmeas.dc.filtered = true ∧
      s.zmeas.coWarn.filtered = false ∧
      (∀ r, latched r = true → rowClass r = .fire ∨ rowClass r = .atmosphere → raised s r = false) ∧
      siteCondition s .run = true := by
  rw [← chamberTripped_eq_false_iff]
  unfold runPermit
  simp only [hs, Bool.true_and, Bool.and_eq_true, Bool.not_eq_true', zoneReadyOrRunning_iff, and_assoc]

/-! ### Literals (R156, R157) -/

/-- A fact in the polarity of its literal. -/
theorem beq_polarity_iff {x positive : Bool} {fact : Prop} (h : x = true ↔ fact) : (x == positive) = true ↔ (fact ↔ positive = true) := by
  rw [beq_iff_eq, Bool.eq_iff_iff, h]

theorem literalHolds_of_general {n : Fin 8} (kind : l.kind = some .general) (index : l.index = some n.val) :
    literalHolds s ts l = true ↔ (s.zmeas.g[n].filtered = true ↔ l.positive = true) := by
  have found : s.zmeas.g[n.val]? = some s.zmeas.g[n] := Vector.getElem?_eq_getElem n.isLt
  simp only [literalHolds, kind, index, Option.getD_some, found, Option.map_some]
  exact beq_polarity_iff Iff.rfl

theorem literalHolds_of_dwellDone {n : Fin 16} (kind : l.kind = some .dwell) (index : l.index = some n.val) :
    literalHolds s ts l = true ↔ (ts[n].state = .done ↔ l.positive = true) := by
  have found : ts[n.val]? = some ts[n] := Vector.getElem?_eq_getElem n.isLt
  simp only [literalHolds, kind, index, Option.getD_some, found, Option.map_some]
  exact beq_polarity_iff decide_eq_true_iff

theorem literalHolds_of_zoneReady (kind : l.kind = some .zoneReady) : literalHolds s ts l = true ↔
    ((hasZone s = true ∧ (s.zone.state = .ready ∨ s.zone.state = .running)) ↔ l.positive = true) := by
  simp only [literalHolds, kind]
  exact beq_polarity_iff (zoneReadyOrRunning_iff s)

theorem literalHolds_of_zoneRunning (kind : l.kind = some .zoneRunning) : literalHolds s ts l = true ↔
    ((hasZone s = true ∧ s.zone.state = .running) ↔ l.positive = true) := by
  simp only [literalHolds, kind]
  exact beq_polarity_iff (by rw [Bool.and_eq_true, decide_eq_true_iff])

theorem bayStateIs_iff (s : State) (b : BayIdx) (x y : BayState) :
    bayStateIs s b.val x y = true ↔ s.bays[b].state = x ∨ s.bays[b].state = y := by
  have found : s.bays[b.val]? = some s.bays[b] := Vector.getElem?_eq_getElem b.isLt
  unfold bayStateIs
  rw [found]
  exact decide_eq_true_iff

theorem literalHolds_of_bay {b : BayIdx} (index : l.index = some b.val) :
    (l.kind = some .bayDischarging → (literalHolds s ts l = true ↔ (s.bays[b].state = .discharging ↔ l.positive = true))) ∧
      (l.kind = some .baySafe →
        (literalHolds s ts l = true ↔ ((s.bays[b].state = .safe ∨ s.bays[b].state = .offering) ↔ l.positive = true))) := by
  constructor
  · intro kind
    simp only [literalHolds, kind, index, Option.getD_some]
    exact beq_polarity_iff ((bayStateIs_iff s b _ _).trans or_self_iff)
  · intro kind
    simp only [literalHolds, kind, index, Option.getD_some]
    exact beq_polarity_iff (bayStateIs_iff s b _ _)

theorem literalHolds_of_peer {k : LiteralKind} {n : Fin 12} (peer : peerKind (some k) = true) (kind : l.kind = some k)
    (index : l.index = some n.val) : literalHolds s ts l = peerLiteral s k n.val l.positive := by
  simp only [literalHolds, kind, index, Option.getD_some]
  cases k with
  | general | dwell | zoneReady | zoneRunning | bayDischarging | baySafe => exact absurd peer (by decide)
  | peerFresh | peerZoneReady | peerZoneRunning | peerAccepting | peerTripFree | peerLockout => rfl

theorem peerLiteral_of_not_fresh {k : LiteralKind} {n : Fin 12} (stale : s.peers[n].state ≠ .fresh) (positive : Bool) :
    peerLiteral s k n.val positive = false := by
  have found : s.peers[n.val]? = some s.peers[n] := Vector.getElem?_eq_getElem n.isLt
  unfold peerLiteral
  rw [found]
  dsimp only
  cases s.peers[n].reported with
  | none => rfl
  | some r => simp only [decide_eq_false stale, Bool.false_and]

theorem peerLiteral_of_fresh {k : LiteralKind} {n : Fin 12} {r : StatusPayload} (fresh : s.peers[n].state = .fresh)
    (report : s.peers[n].reported = some r) (positive : Bool) : peerLiteral s k n.val positive = (peerFact s k r == positive) := by
  have found : s.peers[n.val]? = some s.peers[n] := Vector.getElem?_eq_getElem n.isLt
  unfold peerLiteral
  rw [found]
  dsimp only
  rw [report]
  simp only [decide_eq_true fresh, Bool.true_and]

/-- A peer literal on a FRESH entry: the fact of its kind in the recorded report. -/
theorem literalHolds_of_fresh {k : LiteralKind} {n : Fin 12} {r : StatusPayload} {fact : Prop} (peer : peerKind l.kind = true)
    (index : l.index = some n.val) (fresh : s.peers[n].state = .fresh) (report : s.peers[n].reported = some r) (kind : l.kind = some k)
    (means : peerFact s k r = true ↔ fact) : literalHolds s ts l = true ↔ (fact ↔ l.positive = true) := by
  rw [literalHolds_of_peer (kind ▸ peer) kind index, peerLiteral_of_fresh fresh report]
  exact beq_polarity_iff means

end Sys2Proof.Machine

open Sys2Proof Sys2Proof.Machine

/-- Settles O42: every permit by its terms, every literal by its kind. -/
theorem permitsFollowTheirTerms : Obligations.PermitsFollowTheirTerms := by
  unfold Obligations.PermitsFollowTheirTerms
  refine ⟨fun s => ⟨fun p => siteCondition_of_bare, fun p => siteCondition_iff, permits_of_not_inService, fun hs =>
    ⟨connectPermit_iff hs, releasePermit_iff hs, purgePermit_iff hs, feedPermit_iff hs, runPermit_iff hs⟩⟩, fun s ts l => ?_⟩
  refine ⟨fun kind => ?_, fun n => literalHolds_of_general, fun n => literalHolds_of_dwellDone, literalHolds_of_zoneReady,
    literalHolds_of_zoneRunning, fun b => literalHolds_of_bay, fun n peer index => ⟨fun stale => ?_, fun r fresh report => ?_⟩⟩
  · simp only [literalHolds, kind]
  · cases kind : l.kind with
    | none => simp only [literalHolds, kind]
    | some k => rw [literalHolds_of_peer (kind ▸ peer) kind index, peerLiteral_of_not_fresh stale]
  · refine ⟨fun kind => ?_, fun kind => ?_, fun kind => ?_, fun kind => ?_, fun kind => ?_, fun kind => ?_⟩
    · exact literalHolds_of_fresh peer index fresh report kind ⟨fun _ => trivial, fun _ => rfl⟩
    · exact literalHolds_of_fresh peer index fresh report kind (by simp [peerFact])
    · exact literalHolds_of_fresh peer index fresh report kind (by simp [peerFact])
    · exact literalHolds_of_fresh peer index fresh report kind Iff.rfl
    · exact literalHolds_of_fresh peer index fresh report kind beq_iff_eq
    · exact literalHolds_of_fresh peer index fresh report kind Iff.rfl
end

section
/-! SUPPORT. The cause table: what raising, events and conditions write, what forms each condition, and the first-out mark;
settles O43. -/

namespace Sys2Proof.Machine

variable {s t u : State} {r q : Row}

/-! ### Raising (R126, R127, R131, R141, R143) -/

/-- A raising starts an episode where no latched row stands. -/
theorem startsEpisode_iff (s : State) (r : Row) :
    startsEpisode s r = true ↔ latched r = true ∧ ∀ x, ¬(latched x = true ∧ raised s x = true) := by
  simp [startsEpisode, latchedRaised, mem_allRows]

theorem latchedRaised_eq_false_iff (s : State) : latchedRaised s = false ↔ ∀ x, ¬(latched x = true ∧ raised s x = true) := by
  simp [latchedRaised, mem_allRows]

theorem episode_raiseRow (s : State) (r : Row) :
    (startsEpisode s r = true → (raiseRow s r).causes.episode = if s.causes.episode = 65535 then 1 else s.causes.episode + 1) ∧
      (¬startsEpisode s r = true → (raiseRow s r).causes.episode = s.causes.episode) := by
  rw [(raiseRow_causes s r).1]
  exact ⟨fun starts => if_pos starts, fun goes => if_neg goes⟩

theorem log_raiseRow (s : State) (r : Row) :
    (raiseRow s r).causes.log.getLast? = some (raisedEntry s r) ∧
      (s.causes.log.length < 16 → (raiseRow s r).causes.log = s.causes.log ++ [raisedEntry s r]) ∧
      (s.causes.log.length = 16 → (raiseRow s r).causes.log = s.causes.log.tail ++ [raisedEntry s r]) := by
  obtain ⟨-, -, log, -⟩ := raiseRow_causes s r
  have length : (s.causes.log ++ [raisedEntry s r]).length = s.causes.log.length + 1 := List.length_append
  rw [log, length]
  show (List.drop (s.causes.log.length + 1 - 16) _).getLast? = _ ∧ _
  refine ⟨?_, fun room => ?_, fun full => ?_⟩
  · rw [List.drop_append_of_le_length (by omega), List.getLast?_append]
    rfl
  · rw [show s.causes.log.length + 1 - Config.logSize = 0 from Nat.sub_eq_zero_of_le room, List.drop_zero]
  · have long : 1 ≤ s.causes.log.length := by omega
    rw [full, show 16 + 1 - Config.logSize = 1 from rfl, List.drop_append_of_le_length long, List.drop_one]

/-- The bus takes the TRIP of FD1 to FD4 and of TH2, and of no other row. -/
theorem bus_raiseRow (s : State) (r : Row) :
    (r = .fd1 ∨ r = .fd2 ∨ r = .fd3 ∨ r = .fd4 → (raiseRow s r).bus.tripFire = some (s.bus.tripFire.getD 0 ||| zoneSection s)) ∧
      (∀ b, r = .th2 b → (raiseRow s r).bus.tripThermal = some (s.bus.tripThermal.getD 0 ||| baySection s b)) ∧
      (r ≠ .fd1 → r ≠ .fd2 → r ≠ .fd3 → r ≠ .fd4 → (∀ b, r ≠ .th2 b) → (raiseRow s r).bus = s.bus) := by
  refine ⟨?_, ?_, fun fd1 fd2 fd3 fd4 th2 => ?_⟩
  · rintro (rfl | rfl | rfl | rfl) <;> rfl
  · rintro b rfl
    rfl
  · cases r with
    | fd1 => exact absurd rfl fd1
    | fd2 => exact absurd rfl fd2
    | fd3 => exact absurd rfl fd3
    | fd4 => exact absurd rfl fd4
    | th2 b => exact absurd rfl (th2 b)
    | fd5 | fp1 | fp2 | at1 | at2 | at3 | at4 | at5 | th1 _ | th3 | el1 _ | el2 _ | el3 _ | el4 _ | ln1 _ | ln2 | ac1 _ | ac2 _ | ac3
    | ac4 | ac5 | ac6 _ | ac7 => rfl

/-! ### Events (R128) -/

theorem pulseRow_of_raised (up : raised s r = true) :
    rowState (pulseRow s r) r = { rowState s r with acked := false, condition := false } ∧
      { pulseRow s r with causes := { (pulseRow s r).causes with rows := s.causes.rows } } = s := by
  have event : pulseRow s r = updRow s r fun x => { x with acked := false, condition := false } := if_pos up
  rw [event, rowState_updRow_same]
  exact ⟨rfl, rfl⟩

theorem pulseRow_of_lowered (low : raised s r = false) :
    rowState (pulseRow s r) r = { rowState (raiseRow s r) r with condition := false } := by
  have event : pulseRow s r = updRow (raiseRow s r) r fun x => { x with condition := false } := if_neg (by rw [low]; decide)
  rw [event, rowState_updRow_same]

/-! ### Conditions handed (R126, R127) -/

theorem handCondition_of_lowered (low : raised s r = false) : handCondition s r true = raiseRow s r := by
  rw [handCondition, if_pos rfl, low]
  rfl

theorem handCondition_of_raised (up : raised s r = true) :
    rowState (handCondition s r true) r = { rowState s r with condition := true, acked := (rowState s r).acked && !latched r } := by
  rw [handCondition, if_pos rfl, if_pos up, rowState_updRow_same]

theorem handCondition_of_latched (latches : latched r = true) :
    rowState (handCondition s r false) r = { rowState s r with condition := false } := by
  rw [handCondition, if_neg (by decide), if_pos latches, rowState_updRow_same]

theorem handCondition_of_self (clears : latched r = false) : handCondition s r false = lowerRow s r := by
  rw [handCondition, if_neg (by decide), if_neg (by rw [clears]; decide)]

/-- What a condition handed leaves of its row. -/
theorem handed (s : State) (r : Row) (k : Bool) :
    (rowState (handCondition s r k) r).condition = k ∧ raised (handCondition s r k) r = (k || (latched r && raised s r)) := by
  unfold raised
  cases k with
  | true =>
    cases up : raised s r with
    | false => rw [handCondition_of_lowered up, rowState_raiseRow_same]; exact ⟨rfl, rfl⟩
    | true => rw [handCondition_of_raised up]; exact ⟨rfl, up⟩
  | false =>
    cases latches : latched r with
    | true => rw [handCondition_of_latched latches]; exact ⟨rfl, rfl⟩
    | false => rw [handCondition_of_self latches, rowState_lowerRow_same]; exact ⟨rfl, rfl⟩

/-- The conditions c handed to the rows of a list, one after another. -/
def handRows (c : Row → Bool) (l : List Row) (s : State) : State := l.foldl (fun u r => handCondition u r (c r)) s

theorem handRows_cons (c : Row → Bool) (r : Row) (l : List Row) (s : State) : handRows c (r :: l) s = handRows c l (handCondition s r (c r)) :=
  rfl

theorem rowState_handRows_of_not_mem {c : Row → Bool} {l : List Row} (out : q ∉ l) (s : State) :
    rowState (handRows c l s) q = rowState s q := by
  induction l generalizing s with
  | nil => rfl
  | cons r l ih =>
    obtain ⟨away, later⟩ := List.ne_and_not_mem_of_not_mem_cons out
    rw [handRows_cons, ih later, rowState_handCondition_of_ne s _ away]

theorem handRows_of_mem {c : Row → Bool} {l : List Row} (once : l.Nodup) (mem : q ∈ l) (s : State) :
    (rowState (handRows c l s) q).condition = c q ∧ raised (handRows c l s) q = (c q || (latched q && raised s q)) := by
  induction l generalizing s with
  | nil => cases mem
  | cons r l ih =>
    obtain ⟨out, rest⟩ := List.nodup_cons.1 once
    rw [handRows_cons]
    rcases List.mem_cons.1 mem with rfl | later
    · have own := handed s q (c q)
      unfold raised at own ⊢
      rw [rowState_handRows_of_not_mem out]
      exact own
    · have away : q ≠ r := fun e => out (e ▸ later)
      have own := ih rest later (handCondition s r (c r))
      unfold raised at own ⊢
      rw [rowState_handCondition_of_ne s _ away] at own
      exact own

/-! ### The changed conditions of an event -/

theorem obeyRows_causes (s : State) : (obeyRows s).causes = s.causes := by
  have zone (v : State) : (obeyZone v).causes = v.causes := by
    unfold obeyZone
    split
    · rfl
    · split <;> rfl
  have bays (l : List BayIdx) (v : State) : (l.foldl obeyBay v).causes = v.causes := by
    induction l generalizing v with
    | nil => rfl
    | cons b l ih => exact (ih (obeyBay v b)).trans (obeyBay_causes v b)
  exact (bays allBays (obeyZone s)).trans (zone s)

theorem onRaise_causes (l : List Row) (s : State) : (l.foldl onRaise s).causes = s.causes := by
  have fire (v : State) : (enterFire v).causes = v.causes := by
    unfold enterFire
    split <;> rfl
  have one (v : State) (r : Row) : (onRaise v r).causes = v.causes := by
    unfold onRaise
    cases r with
    | fd1 | fd2 | fd3 | fd4 => exact fire v
    | th2 b => exact thermalQuarantine_causes v b
    | fd5 | fp1 | fp2 | at1 | at2 | at3 | at4 | at5 | th1 _ | th3 | el1 _ | el2 _ | el3 _ | el4 _ | ln1 _ | ln2 | ac1 _ | ac2 _ | ac3
    | ac4 | ac5 | ac6 _ | ac7 => rfl
  induction l generalizing s with
  | nil => rfl
  | cons r l ih => exact (ih (onRaise s r)).trans (one s r)

/-- After the changed conditions are handed, the rows stand as the handing leaves them. -/
theorem rowState_handConditions (handing : handConditions s = some t) (r : Row) :
    rowState t r = rowState (handRows (conditionOf s) (changedRows s) s) r := by
  rw [handConditions_of_some handing]
  exact rowState_of_causes ((obeyRows_causes _).trans (onRaise_causes _ _)) r

theorem changedRows_nodup (s : State) : (changedRows s).Nodup := allRows_nodup.filter _

theorem handConditions_none_iff (s : State) : handConditions s = none ↔ ∀ r, conditionOf s r = (rowState s r).condition := by
  have empty : handConditions s = none ↔ changedRows s = [] := by
    unfold handConditions
    dsimp only
    by_cases none_ : (changedRows s).isEmpty = true
    · rw [if_pos none_]
      exact iff_of_true rfl (List.isEmpty_iff.1 none_)
    · rw [if_neg none_]
      exact iff_of_false (Option.some_ne_none _) (mt List.isEmpty_iff.2 none_)
  rw [empty, List.eq_nil_iff_forall_not_mem]
  simp only [mem_changedRows, not_not]

/-! ### What forms the conditions -/

theorem conditionOf_of_bare (bare : rowConfigured s r = false) : conditionOf s r = false := by rw [conditionOf, bare, Bool.false_and]

theorem conditionOf_of_configured (configured : rowConfigured s r = true) : conditionOf s r = formCondition s r := by
  rw [conditionOf, configured, Bool.true_and]

theorem anyDetector_iff (f : Fin 4 → Bool) : (f 0 || f 1 || f 2 || f 3) = true ↔ ∃ n : Fin 4, f n = true := by
  simp only [Fin.exists_fin_succ, Bool.or_eq_true, or_assoc]
  simp

/-- The conditions of FD1 to FD4 (R114 to R119, R122). -/
theorem fireConditions_iff (s : State) :
    (formCondition s .fd1 = true ↔ s.fire.fd1 = true ∨ s.fire.held[0] = true) ∧
      (formCondition s .fd2 = true ↔ (∃ n : Fin 4, s.fire.det[n].persisted = true) ∨ s.fire.held[1] = true) ∧
      (formCondition s .fd3 = true ↔ s.zmeas.chFire1.filtered = true ∨ s.zmeas.chFire2.filtered = true ∨ s.fire.held[2] = true) ∧
      (formCondition s .fd4 = true ↔ (cfg s).sfire ≤ s.zmeas.spark.sum ∨ s.fire.held[3] = true) := by
  refine ⟨Bool.or_eq_true_iff, ?_, ?_, ?_⟩
  · rw [← anyDetector_iff fun n => s.fire.det[n].persisted]
    exact Bool.or_eq_true_iff
  · rw [← or_assoc, ← Bool.or_eq_true_iff]
    exact Bool.or_eq_true_iff
  · rw [← decide_eq_true_iff (p := (cfg s).sfire ≤ s.zmeas.spark.sum)]
    exact Bool.or_eq_true_iff

/-- The sections of a class in a report. -/
def reportedSections (k : TripClass) (p : StatusPayload) : Sections :=
  match k with
  | .fire => p.fireSections
  | .thermal => p.thermalSections

/-- An originator keeps a remote row's condition (R135). -/
theorem keepsRemote_iff (s : State) (row : Remote) (sections : StatusPayload → Sections) (a : Addr) :
    keepsRemote s row sections a = true ↔ ∃ p, watchIndex s a = some p ∧
      (s.peers[p].state ≠ .fresh ∨ ∃ report, s.peers[p].reported = some report ∧ sections report &&& row.sections ≠ 0) := by
  unfold keepsRemote
  cases watched : watchIndex s a with
  | none => simp
  | some p =>
    have only (P : Fin 12 → Prop) : (∃ q, some p = some q ∧ P q) ↔ P p :=
      ⟨fun ⟨q, e, h⟩ => Option.some.inj e ▸ h, fun h => ⟨p, rfl, h⟩⟩
    rw [only]
    dsimp only
    rw [Bool.or_eq_true, decide_eq_true_iff]
    refine or_congr_right ?_
    cases s.peers[p].reported with
    | none => simp
    | some report => simp

theorem remoteCondition_iff (s : State) (k : TripClass) :
    formCondition s (remoteRow k) = true ↔ ∃ a ∈ (remoteOf s k).originators, ∃ p, watchIndex s a = some p ∧
      (s.peers[p].state ≠ .fresh ∨
        ∃ report, s.peers[p].reported = some report ∧ reportedSections k report &&& (remoteOf s k).sections ≠ 0) := by
  have forms : formCondition s (remoteRow k) = remoteCondition s (remoteOf s k) (reportedSections k) := by cases k <;> rfl
  simp only [forms, remoteCondition, List.any_eq_true, keepsRemote_iff]

theorem unansweredThrice_iff (s : State) (b : BayIdx) :
    formCondition s (.ac6 b) = true ↔ ∃ x, recordOfBay s b = some x ∧ x.unanswered = 3 := by
  show ((recordOfBay s b).map fun r => decide (r.unanswered = 3)).getD false = true ↔ _
  cases recordOfBay s b with
  | none => simp
  | some x => simp

theorem lost_iff (s : State) (p : Fin 12) :
    formCondition s (.ln1 p) = true ↔ s.peers[p].state ≠ .fresh ∧ (s.peers[p].state = .absent → s.startUntil = none) := by
  refine decide_eq_true_iff.trans (and_congr_right fun _ => ?_)
  rw [not_and, Option.not_isSome_iff_eq_none]

/-! ### The first-out mark (R131) -/

theorem lowestLatched_eq (latches : latched q = true) (up : raised s q = true)
    (lowest : ∀ r, latched r = true → raised s r = true → rowPosition q ≤ rowPosition r) : lowestLatched s = some q := by
  have stands : (latched q && raised s q) = true := by rw [latches, up]; rfl
  cases found : lowestLatched s with
  | none => exact absurd stands (by simpa using List.find?_eq_none.1 found q (mem_allRows q))
  | some x =>
    have own := List.find?_some found
    rw [Bool.and_eq_true] at own
    have before := find?_of_sorted allRows_sorted found (mem_allRows q) stands
    exact congrArg some (rowPosition_injective (Nat.le_antisymm before (lowest x own.1 own.2)))

/-- The mark writes one mark in the log as in the rows. -/
theorem log_markFirstOut (calm : latchedRaised s = false) (first : lowestLatched u = some q) :
    (markFirstOut s u).causes.log =
      u.causes.log.map fun e => if isOwnEntry u e.row e then { e with firstOut := decide (e.row = q) } else e := by
  rw [markFirstOut, if_neg (by rw [calm]; decide), first]
  rfl

/-- An event that raises rows with none raised before marks the one of lowest position, and the entries that rows hold. -/
theorem firstOut_of_event (calm : ∀ r, ¬(latched r = true ∧ raised s r = true)) (latches : latched q = true)
    (up : raised (markFirstOut s u) q = true)
    (lowest : ∀ r, latched r = true → raised (markFirstOut s u) r = true → rowPosition q ≤ rowPosition r) (r : Row) :
    ((rowState (markFirstOut s u) r).firstOut = true ↔ r = q) ∧
      ∀ e ∈ (markFirstOut s u).causes.log, (rowState (markFirstOut s u) e.row).logEntry = some e.number → (e.firstOut = true ↔ e.row = q) := by
  have before : latchedRaised s = false := (latchedRaised_eq_false_iff s).2 calm
  simp only [raised_markFirstOut] at up lowest
  have first : lowestLatched u = some q := lowestLatched_eq latches up lowest
  refine ⟨by rw [firstOut_markFirstOut before first, decide_eq_true_iff], fun e mem own => ?_⟩
  have entry (x : Row) : (rowState (markFirstOut s u) x).logEntry = (rowState u x).logEntry := by rw [rowState_markFirstOut]
  rw [log_markFirstOut before first] at mem
  obtain ⟨x, -, written⟩ := List.mem_map.1 mem
  subst written
  by_cases holds : isOwnEntry u x.row x = true
  · rw [if_pos holds]
    exact decide_eq_true_iff
  · rw [if_neg holds, entry] at own
    exact absurd ((isOwnEntry_iff u x.row x).2 ⟨rfl, own⟩) holds

/-- A DISCRETE_ARRIVAL and a WARM_RESET_END change nothing, or end with the first-out mark of the whole. -/
theorem marks_of_exec {c : Instr} (hc : (∃ levels, c = .discreteArrival levels) ∨ c = .warmResetEnd) (h : exec c s = .next t) :
    t = s ∨ ∃ u, t = markFirstOut s u := by
  rcases hc with ⟨levels, rfl⟩ | rfl
  · simp only [exec, execDiscreteArrival, whenServing] at h
    have ends := Host.Outcome.next.inj h
    split at ends
    · exact .inr ⟨_, ends.symm⟩
    · exact .inl ends.symm
  · have leaves (r : Restarting) : ∃ u, leaveWarmReset s r = markFirstOut s u := by
      unfold leaveWarmReset
      exact ⟨_, rfl⟩
    simp only [exec, execWarmResetEnd] at h
    have ends := Host.Outcome.next.inj h
    split at ends
    · rename_i r _ _
      by_cases ran : r.endAt ≤ s.now
      · rw [if_pos ran] at ends
        obtain ⟨u, e⟩ := leaves r
        exact .inr ⟨u, ends.symm.trans e⟩
      · rw [if_neg ran] at ends
        exact .inl ends.symm
    · exact .inl ends.symm

end Sys2Proof.Machine

open Sys2Proof Sys2Proof.Machine

/-- Settles O43: raising, conditions, handing and the mark, each by its own lemmas. -/
theorem rowsAreRaised : Obligations.RowsAreRaised := by
  unfold Obligations.RowsAreRaised
  refine ⟨fun r s => ⟨?_, pulseRow_of_raised, pulseRow_of_lowered⟩, fun r s => conditionOf_of_bare, fun r s configured => ?_,
    fun r s => ?_, fun s => ⟨handConditions_none_iff s, fun t handing r => ?_⟩, fun c s t q hc h calm latches up lowest r => ?_⟩
  · intro t starts
    have row : rowState t r = _ := rowState_raiseRow_same s r
    obtain ⟨episode, next, -⟩ := raiseRow_causes s r
    obtain ⟨starting, going⟩ := episode_raiseRow s r
    obtain ⟨last, room, full⟩ := log_raiseRow s r
    obtain ⟨fire, thermal, other⟩ := bus_raiseRow s r
    have starts_iff : startsEpisode s r = true ↔ starts := startsEpisode_iff s r
    rw [row]
    refine ⟨rfl, rfl, rfl, rfl, rfl, rfl, starts_iff, fun k => starting (starts_iff.2 k), fun k => going (mt starts_iff.1 k),
      fun latches => ?_, fun clears => if_neg (by rw [clears]; decide), fun x away => rowState_raiseRow_of_ne s away,
      ⟨raisedEntry s r, last, rfl, rfl, rfl, rfl, rfl, rfl, room, full⟩, next, fire, thermal, other⟩
    exact (if_pos latches).trans episode.symm
  · intro holds
    have holds_iff (fact : Prop) : holds fact ↔ (formCondition s r = true ↔ fact) := by rw [← conditionOf_of_configured configured]
    simp only [holds_iff]
    obtain ⟨fd1, fd2, fd3, fd4⟩ := fireConditions_iff s
    refine ⟨?_, ?_, ?_, ?_, ?_, ?_, ?_, ?_, ?_, ?_, ?_, fun b => ⟨?_, ?_, ?_, ?_, ?_, ?_, ?_, ?_, ?_⟩, fun p => ?_, ?_, ?_, ?_⟩
    · rintro rfl; exact fd1
    · rintro rfl; exact fd2
    · rintro rfl; exact fd3
    · rintro rfl; exact fd4
    · rintro k rfl
      refine (remoteCondition_iff s k).trans ?_
      cases k <;> exact Iff.rfl
    · rintro rfl; exact anyDetector_iff fun n => s.fire.det[n].active
    · rintro rfl; exact decide_eq_true_iff
    · rintro rfl; exact Bool.and_eq_true_iff.trans (and_congr_left' decide_eq_true_iff)
    · rintro rfl; exact Iff.rfl
    · rintro rfl; exact decide_eq_true_iff
    · rintro rfl; simp [formCondition]
    · rintro rfl; exact Iff.rfl
    · rintro rfl; exact Iff.rfl
    · rintro rfl; exact Iff.rfl
    · rintro rfl; exact Iff.rfl
    · rintro rfl; simp [formCondition, degradedNow, or_assoc]
    · rintro rfl; exact Iff.rfl
    · rintro rfl; exact Iff.rfl
    · rintro rfl; exact Iff.rfl
    · rintro rfl; exact unansweredThrice_iff s b
    · rintro rfl; exact lost_iff s p
    · rintro rfl; exact Iff.rfl
    · rintro rfl; simp [formCondition]
    · rintro (rfl | rfl | rfl | rfl) <;> simp [formCondition]
  · refine ⟨handCondition_of_lowered, fun up latches => ?_, fun up clears => ?_, handCondition_of_latched,
      fun clears => ⟨handCondition_of_self clears, rowState_lowerRow_same s r⟩, fun c x away => rowState_handCondition_of_ne s c away⟩
    · rw [handCondition_of_raised up, latches, Bool.not_true, Bool.and_false]
    · rw [handCondition_of_raised up, clears, Bool.not_false, Bool.and_true]
  · have row := rowState_handConditions handing r
    have same : raised t r = raised (handRows (conditionOf s) (changedRows s) s) r := congrArg RowState.raised row
    by_cases changed : conditionOf s r = (rowState s r).condition
    · have out : r ∉ changedRows s := fun mem => (mem_changedRows s r).1 mem changed
      rw [rowState_handRows_of_not_mem out] at row
      rw [row]
      exact ⟨changed.symm, fun _ => rfl, fun yes no => absurd (yes.symm.trans (changed.trans no)) (by decide),
        fun no yes => absurd (no.symm.trans (changed.trans yes)) (by decide)⟩
    · obtain ⟨condition, stands⟩ := handRows_of_mem (c := conditionOf s) (changedRows_nodup s) ((mem_changedRows s r).2 changed) s
      rw [row, same, stands]
      refine ⟨condition, fun k => absurd k changed, fun yes _ => ?_, fun no _ => ?_⟩
      · rw [yes, Bool.true_or]
      · rw [no, Bool.false_or]
  · rcases marks_of_exec hc h with rfl | ⟨u, rfl⟩
    · exact absurd ⟨latches, up⟩ (calm q)
    · exact firstOut_of_event calm latches up lowest r
end
